-- ==== Sys2Proof/Word.lean ====
section
/-! DEFINITION. The character of the two serial ports (R150): eight data bits. Every other quantity of
the unit is a count and is a `Nat` (or an `Int` where the spec gives it a sign). -/

namespace Sys2Proof

/-- The eight data bits of one character (R150). -/
abbrev Byte := BitVec 8

end Sys2Proof
end

