-- ==== Sys2Proof/Syntax.lean ====
section
/-! DEFINITION. The commands of the unit, one constructor per row of spec/opcode_table.json, and the
records and requests that travel over its two ports. A request row (REPORT to UNKNOWN_KIND) is the
step in which the Request Handler takes the next frame and admits it (R165): its operands are the
characters of that frame, which LINE_FRAME_RECEIVED or CENTRE_FRAME_RECEIVED brought in, so the row
itself has no field, as the table says. -/

namespace Sys2Proof

/-- Direction of travel: inbound is toward increasing junction index. -/
inductive Direction where
  | inbound | outbound
  deriving DecidableEq, Repr

/-- The four levels of an address or rate strap (section 11.5). -/
inductive StrapLevel where
  | gnd | pulledDown | pulledUp | vdd
  deriving DecidableEq, Repr

/-- The two levels of STRAP_START (R169). -/
inductive StartLevel where
  | hold | auto
  deriving DecidableEq, Repr

/-- The levels of the four strap pins, as sensed at one moment (R169). -/
structure Straps where
  addrLo : StrapLevel
  addrHi : StrapLevel
  rate   : StrapLevel
  start  : StartLevel
  deriving DecidableEq, Repr

/-- The five faults of a frame being received (R153). -/
inductive RxFault where
  | framing | brokenFrame | length | check | overrun
  deriving DecidableEq, Repr

/-- The commands: every operation and event of spec/opcode_table.json, in the table's order. -/
inductive Instr where
  | report
  | priorityCall
  | priorityCancel
  | readStatus
  | readJunction
  | readBand
  | readPlanHead
  | readPlanGroup
  | writePlanHead
  | writePlanGroup
  | erasePlan
  | checkPlan
  | readGeometryHead
  | readGeometryGroup
  | writeGeometryHead
  | writeGeometryGroup
  | checkGeometry
  | readSelection
  | writeSelection
  | pinPlan
  | pinBias
  | releaseHold
  | enterHold
  | resetUnit
  | resetEngine
  | unknownKind
  | resetNAssert
  /-- `pins`: the strap levels sensed when the unit latches them. -/
  | hardwareReset (pins : Straps)
  /-- `pins`: the strap levels, latched only with option 1 (R172). -/
  | resetUnitTakesEffect (pins : Straps)
  | cycleBoundary
  /-- `j`: the junction whose local counter returned to 0. -/
  | localZero (j : Nat)
  /-- `j`: the junction whose local counter reached its window end. -/
  | windowClose (j : Nat)
  | beatDue
  | evaluation
  | pinLapse
  | periodEnd
  /-- `j`, `tag`: the key of the entry whose expiry time the clock reached. -/
  | priorityExpiry (j tag : Nat)
  | retentionComplete
  | computationComplete
  | lineBusy
  /-- `partialRx`: the characters of a frame whose reception the gap cuts short (empty: none). -/
  | lineFree (partialRx : List Byte)
  | lineFault
  | frameComplete
  | arbitrationLoss
  /-- `chars`: every character of a frame, destination to second check character. -/
  | lineFrameReceived (chars : List Byte)
  | centreFrameReceived (chars : List Byte)
  | centreFrameComplete
  | decisecondTick
  /-- `fault`: what was found; `chars`: the whole characters assembled before it was found. -/
  | lineFrameDiscarded (fault : RxFault) (chars : List Byte)
  | centreFrameDiscarded (fault : RxFault) (chars : List Byte)
  deriving DecidableEq, Repr

/-! ### Frames and stored records -/

/-- A frame without its length and check characters, which its payload determines (R152, R159). -/
structure Frame where
  dest    : Byte
  src     : Byte
  kind    : Byte
  seq     : Byte
  payload : List Byte
  deriving DecidableEq, Repr

/-- The writable head fields of the geometry record (R3, R4). -/
structure GeometryHead where
  n                 : Nat
  reportPeriod      : Nat
  downgradeLimit    : Nat
  u1                : Nat
  u2                : Nat
  u3                : Nat
  d1                : Nat
  d2                : Nat
  d3                : Nat
  startPlan         : Nat
  selectionInterval : Nat
  pinLapse          : Nat
  priorityExpiry    : Nat
  holdOff           : Nat
  deriving DecidableEq, Repr

/-- One junction entry of the geometry record (R3). -/
structure GeometryEntry where
  address  : Nat
  position : Nat
  deriving DecidableEq, Repr

/-- The head fields of a plan record (R9). -/
structure PlanHead where
  c           : Nat
  p           : Nat
  anchor      : Nat
  vIn         : Nat
  vOut        : Nat
  biasNominal : Nat
  biasMin     : Nat
  biasMax     : Nat
  gMin        : Nat
  sMin        : Nat
  dwellPct    : Nat
  shortPct    : Nat
  eMax        : Nat
  xMax        : Nat
  lockout     : Nat
  gatePct     : Nat
  deriving DecidableEq, Repr

/-- One junction entry of a plan record (R9). -/
structure PlanEntry where
  share  : Nat
  trim   : Int
  follow : Bool
  priIn  : Bool
  priOut : Bool
  deriving DecidableEq, Repr

/-- The dominance of a selection entry (R18) and of the demand (R99, never ANY). -/
inductive Dominance where
  | inbound | outbound | balanced | any
  deriving DecidableEq, Repr

/-- One entry of the selection table (R18). -/
structure SelectionEntry where
  valid       : Bool
  plan        : Nat
  low         : Nat
  high        : Nat
  dominance   : Dominance
  persistence : Nat
  deriving DecidableEq, Repr

/-! ### Requests (R159: the payload tables) -/

structure ReportBody where
  inOccupancy  : Nat
  outOccupancy : Nat
  inVolume     : Nat
  outVolume    : Nat
  following    : Bool
  inExit       : Bool
  outExit      : Bool
  deriving DecidableEq, Repr

structure CallBody where
  junction  : Nat
  direction : Direction
  tag       : Nat
  eta       : Nat
  deriving DecidableEq, Repr

structure CancelBody where
  junction : Nat
  tag      : Nat
  deriving DecidableEq, Repr

structure StatusBody where
  clear : Bool
  page  : Nat
  deriving DecidableEq, Repr

/-- A read that names one index (a junction, a plan, a group or a selection entry) and a page. -/
structure IndexedRead where
  index : Nat
  page  : Nat
  deriving DecidableEq, Repr

structure PlanGroupRead where
  plan  : Nat
  group : Nat
  page  : Nat
  deriving DecidableEq, Repr

structure PlanHeadWrite where
  plan : Nat
  head : PlanHead
  deriving DecidableEq, Repr

structure PlanGroupWrite where
  plan    : Nat
  group   : Nat
  entries : Vector PlanEntry 4
  deriving DecidableEq, Repr

structure GeometryGroupWrite where
  group   : Nat
  entries : Vector GeometryEntry 4
  deriving DecidableEq, Repr

structure SelectionWrite where
  index : Nat
  entry : SelectionEntry
  deriving DecidableEq, Repr

/-- The 25 request kinds (R159, kind codes). -/
inductive RequestKind where
  | report | priorityCall | priorityCancel
  | readStatus | readJunction | readBand
  | readPlanHead | writePlanHead | readPlanGroup | writePlanGroup | erasePlan | checkPlan
  | readGeometryHead | writeGeometryHead | readGeometryGroup | writeGeometryGroup | checkGeometry
  | readSelection | writeSelection | pinPlan | pinBias
  | releaseHold | enterHold | resetUnit | resetEngine
  deriving DecidableEq, Repr

/-- A request with the content its payload carries. -/
inductive Request where
  | report (b : ReportBody)
  | priorityCall (b : CallBody)
  | priorityCancel (b : CancelBody)
  | readStatus (b : StatusBody)
  | readJunction (b : IndexedRead)
  | readBand (page : Nat)
  | readPlanHead (b : IndexedRead)
  | writePlanHead (b : PlanHeadWrite)
  | readPlanGroup (b : PlanGroupRead)
  | writePlanGroup (b : PlanGroupWrite)
  | erasePlan (plan : Nat)
  | checkPlan (plan : Nat)
  | readGeometryHead (page : Nat)
  | writeGeometryHead (h : GeometryHead)
  | readGeometryGroup (b : IndexedRead)
  | writeGeometryGroup (b : GeometryGroupWrite)
  | checkGeometry
  | readSelection (b : IndexedRead)
  | writeSelection (b : SelectionWrite)
  | pinPlan (plan : Nat)
  | pinBias (value : Nat)
  | releaseHold (plan : Nat)
  | enterHold
  | resetUnit (relatch : Bool)
  | resetEngine
  deriving DecidableEq, Repr

end Sys2Proof
end

