-- ==== Sys2Proof/WellFormed.lean ====
section
/-! DEFINITION. Which commands and which requests are well formed: every operand in the range its
place has. A command that is not well formed names nothing the unit has (a junction record beyond
index 11, a frame longer than 31 characters). -/

namespace Sys2Proof

/-- The most characters a frame has: 5 of envelope, 24 of payload, 2 of check word (R159). -/
def maxFrameChars : Nat := 31

/-- The fewest characters a frame has (R159). -/
def minFrameChars : Nat := 7

/-- A whole frame has 7 to 31 characters (R159). -/
def wholeFrameLength (chars : List Byte) : Bool :=
  decide (minFrameChars ≤ chars.length) && decide (chars.length ≤ maxFrameChars)

/-- Well-formed commands: junction records are 0..11 (R60), vehicle tags 1..65535 (R124), a whole
frame 7 to 31 characters and a frame cut short fewer than 31 (R159). -/
def Instr.wellFormed : Instr → Bool
  | .localZero j => decide (j < 12)
  | .windowClose j => decide (j < 12)
  | .priorityExpiry j tag => decide (j < 12) && decide (1 ≤ tag) && decide (tag ≤ 65535)
  | .lineFree partialRx => decide (partialRx.length < maxFrameChars)
  | .lineFrameReceived chars => wholeFrameLength chars
  | .centreFrameReceived chars => wholeFrameLength chars
  | .lineFrameDiscarded _ chars => decide (chars.length ≤ maxFrameChars)
  | .centreFrameDiscarded _ chars => decide (chars.length ≤ maxFrameChars)
  | .report | .priorityCall | .priorityCancel | .readStatus | .readJunction | .readBand
  | .readPlanHead | .readPlanGroup | .writePlanHead | .writePlanGroup | .erasePlan | .checkPlan
  | .readGeometryHead | .readGeometryGroup | .writeGeometryHead | .writeGeometryGroup
  | .checkGeometry | .readSelection | .writeSelection | .pinPlan | .pinBias | .releaseHold
  | .enterHold | .resetUnit | .resetEngine | .unknownKind | .resetNAssert | .hardwareReset _
  | .resetUnitTakesEffect _ | .cycleBoundary | .beatDue | .evaluation | .pinLapse | .periodEnd
  | .retentionComplete | .computationComplete | .lineBusy | .lineFault | .frameComplete
  | .arbitrationLoss | .centreFrameComplete | .decisecondTick => true

/-- The value fits one character. -/
def fits1 (v : Nat) : Bool := decide (v < 256)

/-- The value fits two characters. -/
def fits2 (v : Nat) : Bool := decide (v < 65536)

/-- The signed value fits two characters in two's complement (R159). -/
def fitsSigned (v : Int) : Bool := decide (-32768 ≤ v) && decide (v < 32768)

def PlanHead.fits (h : PlanHead) : Bool :=
  fits2 h.c && fits2 h.p && fits1 h.anchor && fits1 h.vIn && fits1 h.vOut &&
  fits1 h.biasNominal && fits1 h.biasMin && fits1 h.biasMax && fits2 h.gMin && fits2 h.sMin &&
  fits1 h.dwellPct && fits1 h.shortPct && fits1 h.eMax && fits1 h.xMax && fits1 h.lockout &&
  fits1 h.gatePct

def PlanEntry.fits (e : PlanEntry) : Bool := fits2 e.share && fitsSigned e.trim

def GeometryHead.fits (h : GeometryHead) : Bool :=
  fits1 h.n && fits1 h.reportPeriod && fits1 h.downgradeLimit &&
  fits2 h.u1 && fits2 h.u2 && fits2 h.u3 && fits2 h.d1 && fits2 h.d2 && fits2 h.d3 &&
  fits1 h.startPlan && fits2 h.selectionInterval && fits1 h.pinLapse &&
  fits1 h.priorityExpiry && fits1 h.holdOff

def GeometryEntry.fits (e : GeometryEntry) : Bool := fits1 e.address && fits2 e.position

def SelectionEntry.fits (e : SelectionEntry) : Bool :=
  fits1 e.plan && fits2 e.low && fits2 e.high && fits1 e.persistence

/-- A request whose every field fits the characters its payload gives it (R159). A field may still
lie outside the range its record has; the owning block refuses it then. -/
def Request.wellFormed : Request → Bool
  | .report b => fits2 b.inOccupancy && fits2 b.outOccupancy && fits1 b.inVolume && fits1 b.outVolume
  | .priorityCall b => fits1 b.junction && fits2 b.tag && fits2 b.eta
  | .priorityCancel b => fits1 b.junction && fits2 b.tag
  | .readStatus b => fits1 b.page
  | .readJunction b => fits1 b.index && fits1 b.page
  | .readBand page => fits1 page
  | .readPlanHead b => fits1 b.index && fits1 b.page
  | .writePlanHead b => fits1 b.plan && b.head.fits
  | .readPlanGroup b => fits1 b.plan && fits1 b.group && fits1 b.page
  | .writePlanGroup b =>
      fits1 b.plan && fits1 b.group && b.entries[0].fits && b.entries[1].fits &&
      b.entries[2].fits && b.entries[3].fits
  | .erasePlan plan => fits1 plan
  | .checkPlan plan => fits1 plan
  | .readGeometryHead page => fits1 page
  | .writeGeometryHead h => h.fits
  | .readGeometryGroup b => fits1 b.index && fits1 b.page
  | .writeGeometryGroup b =>
      fits1 b.group && b.entries[0].fits && b.entries[1].fits && b.entries[2].fits &&
      b.entries[3].fits
  | .checkGeometry => true
  | .readSelection b => fits1 b.index && fits1 b.page
  | .writeSelection b => fits1 b.index && b.entry.fits
  | .pinPlan plan => fits1 plan
  | .pinBias value => fits1 value
  | .releaseHold plan => fits1 plan
  | .enterHold => true
  | .resetUnit _ => true
  | .resetEngine => true

end Sys2Proof
end

