-- ==== Sys2Proof/Decode.lean ====
section
/-! DEFINITION. The decoder. The table of operations gives no row any bits, so `decodeTableWord`
reads no command from a word. What the unit does decode and encode is frames: the address
characters, the check word, the envelope and the request payloads of R150, R152 and R159. -/

namespace Sys2Proof

/-- The command that a table word spells. No row of spec/opcode_table.json has bits, so no word spells
a command. -/
def decodeTableWord (_nbits _w : Nat) : Option Instr := none

/-! ### Characters (R159) -/

/-- A value in one character. -/
def char1 (v : Nat) : Byte := BitVec.ofNat 8 v

/-- A value in two characters, low byte first. -/
def char2 (v : Nat) : List Byte := [char1 v, char1 (v / 256)]

/-- A value in four characters, low byte first. -/
def char4 (v : Nat) : List Byte :=
  [char1 v, char1 (v / 256), char1 (v / 65536), char1 (v / 16777216)]

/-- A signed value in two characters, two's complement. -/
def charSigned (v : Int) : List Byte := char2 (v % 65536).toNat

/-- The value of two characters, low byte first. -/
def val2 (lo hi : Byte) : Nat := lo.toNat + 256 * hi.toNat

/-- The signed value of two characters in two's complement. -/
def valSigned (lo hi : Byte) : Int :=
  if val2 lo hi < 32768 then (val2 lo hi : Int) else (val2 lo hi : Int) - 65536

/-- Bit `i` of a flags character. -/
def flagBit (b : Byte) (i : Nat) : Bool := b.getLsbD i

/-- A flags character from its low three bits; the unused bits are sent 0. -/
def flags3 (b0 b1 b2 : Bool) : Byte :=
  char1 (b0.toNat + 2 * b1.toNat + 4 * b2.toNat)

/-! ### Addresses (R159: most significant bit in data bit 0) -/

/-- The five low bits of a number in reverse order. -/
def reverse5 (a : Nat) : Nat :=
  a % 2 * 16 + a / 2 % 2 * 8 + a / 4 % 2 * 4 + a / 8 % 2 * 2 + a / 16 % 2

/-- The address character of a station. -/
def addressChar (a : Nat) : Byte := char1 (reverse5 a)

/-- The address read from bits 0 to 4 of an address character. -/
def addressOf (b : Byte) : Nat := reverse5 b.toNat

/-- A destination character with any of bits 5 to 7 set names no station. -/
def namesStation (b : Byte) (address : Nat) : Bool :=
  decide (b.toNat < 32) && decide (addressOf b = address)

/-! ### Frames (R152, R159) -/

/-- The most characters a payload has (R153). -/
def maxPayload : Nat := 24

/-- The sum of the values of the characters, modulo 65,536. -/
def checkWord (chars : List Byte) : Nat := (chars.map BitVec.toNat).sum % 65536

/-- The characters before the check word: the envelope's five and the payload. -/
def Frame.body (f : Frame) : List Byte :=
  f.dest :: f.src :: f.kind :: f.seq :: char1 f.payload.length :: f.payload

/-- Every character of a frame in the order they are sent. -/
def Frame.chars (f : Frame) : List Byte := f.body ++ char2 (checkWord f.body)

/-- What the characters of a frame assembled so far amount to. -/
inductive Assembly where
  | incomplete
  | badLength
  | badCheck
  | complete (f : Frame)
  | overlong
  deriving DecidableEq, Repr

/-- Assemble the characters of one frame (R152): the length character gives how many follow, and the
check word must agree. `overlong` is no list of characters of one frame. -/
def assemble : List Byte → Assembly
  | dest :: src :: kind :: seq :: len :: rest =>
    if maxPayload < len.toNat then
      if rest.isEmpty then .badLength else .overlong
    else if rest.length < len.toNat + 2 then .incomplete
    else if len.toNat + 2 < rest.length then .overlong
    else
      let f : Frame := { dest, src, kind, seq, payload := rest.take len.toNat }
      if rest.drop len.toNat = char2 (checkWord f.body) then .complete f else .badCheck
  | _ => .incomplete

/-! ### Kind codes (R159) -/

/-- The code of a request kind. -/
def RequestKind.code : RequestKind → Nat
  | .report => 0x01 | .priorityCall => 0x02 | .priorityCancel => 0x03
  | .readStatus => 0x10 | .readJunction => 0x11 | .readBand => 0x12
  | .readPlanHead => 0x20 | .writePlanHead => 0x21 | .readPlanGroup => 0x22
  | .writePlanGroup => 0x23 | .erasePlan => 0x24 | .checkPlan => 0x25
  | .readGeometryHead => 0x28 | .writeGeometryHead => 0x29 | .readGeometryGroup => 0x2A
  | .writeGeometryGroup => 0x2B | .checkGeometry => 0x2C
  | .readSelection => 0x30 | .writeSelection => 0x31 | .pinPlan => 0x38 | .pinBias => 0x39
  | .releaseHold => 0x40 | .enterHold => 0x41 | .resetUnit => 0x48 | .resetEngine => 0x49

/-- The 25 request kinds. -/
def requestKinds : List RequestKind :=
  [.report, .priorityCall, .priorityCancel, .readStatus, .readJunction, .readBand,
   .readPlanHead, .writePlanHead, .readPlanGroup, .writePlanGroup, .erasePlan, .checkPlan,
   .readGeometryHead, .writeGeometryHead, .readGeometryGroup, .writeGeometryGroup,
   .checkGeometry, .readSelection, .writeSelection, .pinPlan, .pinBias,
   .releaseHold, .enterHold, .resetUnit, .resetEngine]

/-- The request kind a kind character carries; every other code is unknown (R166). -/
def kindOf (b : Byte) : Option RequestKind :=
  requestKinds.find? fun k => decide (k.code = b.toNat)

/-- The kind codes of the frames the unit sends (R159). -/
def beatCode : Nat := 0x80
def steerCode : Nat := 0x81
def replyCode : Nat := 0x82
def outcomeCode : Nat := 0x83
def noticeCode : Nat := 0x84

/-- The payload length of each request kind (R159). -/
def RequestKind.payloadLength : RequestKind → Nat
  | .report => 7 | .priorityCall => 6 | .priorityCancel => 3
  | .readStatus => 2 | .readJunction => 2 | .readBand => 1
  | .readPlanHead => 2 | .writePlanHead => 21 | .readPlanGroup => 3
  | .writePlanGroup => 22 | .erasePlan => 1 | .checkPlan => 1
  | .readGeometryHead => 1 | .writeGeometryHead => 21 | .readGeometryGroup => 2
  | .writeGeometryGroup => 13 | .checkGeometry => 0
  | .readSelection => 2 | .writeSelection => 9 | .pinPlan => 1 | .pinBias => 1
  | .releaseHold => 1 | .enterHold => 0 | .resetUnit => 1 | .resetEngine => 0

/-! ### Named values (R159: the position in the list that defines the field) -/

def Direction.code : Direction → Nat
  | .inbound => 0 | .outbound => 1

def directionOf (b : Byte) : Option Direction :=
  if b.toNat = 0 then some .inbound else if b.toNat = 1 then some .outbound else none

def Dominance.code : Dominance → Nat
  | .inbound => 0 | .outbound => 1 | .balanced => 2 | .any => 3

def dominanceOf (b : Byte) : Option Dominance :=
  if b.toNat = 0 then some .inbound else if b.toNat = 1 then some .outbound
  else if b.toNat = 2 then some .balanced else if b.toNat = 3 then some .any else none

/-- The selection entry's valid field: its values are listed "yes, no" (R18), so yes is 0 and no is
1 (DEDUCED, log 12). -/
def yesNo (b : Bool) : Nat := if b then 0 else 1

def yesNoOf (b : Byte) : Option Bool :=
  if b.toNat = 0 then some true else if b.toNat = 1 then some false else none

/-- An option character listed 0 for no and 1 for yes (R159: the clear and relatch options). -/
def optionOf (b : Byte) : Option Bool :=
  if b.toNat = 0 then some false else if b.toNat = 1 then some true else none

/-! ### Request payloads (R159). Each parser answers none when the payload length is not the kind's
or a named value lies beyond its set (R166, item 3). -/

def parseReport : List Byte → Option ReportBody
  | [a, b, c, d, e, f, g] =>
    some { inOccupancy := val2 a b, outOccupancy := val2 c d, inVolume := e.toNat,
           outVolume := f.toNat, following := flagBit g 0, inExit := flagBit g 1,
           outExit := flagBit g 2 }
  | _ => none

def parseCall : List Byte → Option CallBody
  | [j, d, t0, t1, e0, e1] =>
    (directionOf d).map fun dir =>
      { junction := j.toNat, direction := dir, tag := val2 t0 t1, eta := val2 e0 e1 }
  | _ => none

def parseCancel : List Byte → Option CancelBody
  | [j, t0, t1] => some { junction := j.toNat, tag := val2 t0 t1 }
  | _ => none

def parseStatus : List Byte → Option StatusBody
  | [c, p] => (optionOf c).map fun clear => { clear, page := p.toNat }
  | _ => none

def parseIndexed : List Byte → Option IndexedRead
  | [i, p] => some { index := i.toNat, page := p.toNat }
  | _ => none

def parseOne : List Byte → Option Nat
  | [p] => some p.toNat
  | _ => none

def parseNone : List Byte → Option Unit
  | [] => some ()
  | _ => none

def parsePlanGroupRead : List Byte → Option PlanGroupRead
  | [p, g, q] => some { plan := p.toNat, group := g.toNat, page := q.toNat }
  | _ => none

def parsePlanHeadWrite : List Byte → Option PlanHeadWrite
  | [n, c0, c1, p0, p1, a, vi, vo, b, bl, bh, g0, g1, s0, s1, dw, sh, em, xm, lo, ga] =>
    some { plan := n.toNat,
           head := { c := val2 c0 c1, p := val2 p0 p1, anchor := a.toNat, vIn := vi.toNat,
                     vOut := vo.toNat, biasNominal := b.toNat, biasMin := bl.toNat,
                     biasMax := bh.toNat, gMin := val2 g0 g1, sMin := val2 s0 s1,
                     dwellPct := dw.toNat, shortPct := sh.toNat, eMax := em.toNat,
                     xMax := xm.toNat, lockout := lo.toNat, gatePct := ga.toNat } }
  | _ => none

/-- One plan junction entry: share (2), trim (2, signed), flags (1). -/
def planEntryOf (s0 s1 t0 t1 f : Byte) : PlanEntry :=
  { share := val2 s0 s1, trim := valSigned t0 t1, follow := flagBit f 0, priIn := flagBit f 1,
    priOut := flagBit f 2 }

def parsePlanGroupWrite : List Byte → Option PlanGroupWrite
  | [n, g, a0, a1, a2, a3, a4, b0, b1, b2, b3, b4, c0, c1, c2, c3, c4, d0, d1, d2, d3, d4] =>
    some { plan := n.toNat, group := g.toNat,
           entries := #v[planEntryOf a0 a1 a2 a3 a4, planEntryOf b0 b1 b2 b3 b4,
                         planEntryOf c0 c1 c2 c3 c4, planEntryOf d0 d1 d2 d3 d4] }
  | _ => none

def parseGeometryHead : List Byte → Option GeometryHead
  | [n, r, l, u0, u1, v0, v1, w0, w1, d0, d1, e0, e1, f0, f1, sp, s0, s1, pl, pe, h] =>
    some { n := n.toNat, reportPeriod := r.toNat, downgradeLimit := l.toNat, u1 := val2 u0 u1,
           u2 := val2 v0 v1, u3 := val2 w0 w1, d1 := val2 d0 d1, d2 := val2 e0 e1,
           d3 := val2 f0 f1, startPlan := sp.toNat, selectionInterval := val2 s0 s1,
           pinLapse := pl.toNat, priorityExpiry := pe.toNat, holdOff := h.toNat }
  | _ => none

/-- One geometry junction entry: line address (1), position (2). -/
def geometryEntryOf (a p0 p1 : Byte) : GeometryEntry :=
  { address := a.toNat, position := val2 p0 p1 }

def parseGeometryGroup : List Byte → Option GeometryGroupWrite
  | [g, a0, a1, a2, b0, b1, b2, c0, c1, c2, d0, d1, d2] =>
    some { group := g.toNat,
           entries := #v[geometryEntryOf a0 a1 a2, geometryEntryOf b0 b1 b2,
                         geometryEntryOf c0 c1 c2, geometryEntryOf d0 d1 d2] }
  | _ => none

def parseSelection : List Byte → Option SelectionWrite
  | [i, v, p, l0, l1, h0, h1, d, ps] =>
    (yesNoOf v).bind fun valid => (dominanceOf d).map fun dom =>
      { index := i.toNat,
        entry := { valid, plan := p.toNat, low := val2 l0 l1, high := val2 h0 h1,
                   dominance := dom, persistence := ps.toNat } }
  | _ => none

def parseOption : List Byte → Option Bool
  | [c] => optionOf c
  | _ => none

/-- The request that a payload of a kind carries. -/
def parseRequest (k : RequestKind) (p : List Byte) : Option Request :=
  match k with
  | .report => (parseReport p).map .report
  | .priorityCall => (parseCall p).map .priorityCall
  | .priorityCancel => (parseCancel p).map .priorityCancel
  | .readStatus => (parseStatus p).map .readStatus
  | .readJunction => (parseIndexed p).map .readJunction
  | .readBand => (parseOne p).map .readBand
  | .readPlanHead => (parseIndexed p).map .readPlanHead
  | .writePlanHead => (parsePlanHeadWrite p).map .writePlanHead
  | .readPlanGroup => (parsePlanGroupRead p).map .readPlanGroup
  | .writePlanGroup => (parsePlanGroupWrite p).map .writePlanGroup
  | .erasePlan => (parseOne p).map .erasePlan
  | .checkPlan => (parseOne p).map .checkPlan
  | .readGeometryHead => (parseOne p).map .readGeometryHead
  | .writeGeometryHead => (parseGeometryHead p).map .writeGeometryHead
  | .readGeometryGroup => (parseIndexed p).map .readGeometryGroup
  | .writeGeometryGroup => (parseGeometryGroup p).map .writeGeometryGroup
  | .checkGeometry => (parseNone p).map fun _ => .checkGeometry
  | .readSelection => (parseIndexed p).map .readSelection
  | .writeSelection => (parseSelection p).map .writeSelection
  | .pinPlan => (parseOne p).map .pinPlan
  | .pinBias => (parseOne p).map .pinBias
  | .releaseHold => (parseOne p).map .releaseHold
  | .enterHold => (parseNone p).map fun _ => .enterHold
  | .resetUnit => (parseOption p).map .resetUnit
  | .resetEngine => (parseNone p).map fun _ => .resetEngine

/-! ### The encoder of requests, written from the same tables of R159 -/

/-- The kind of a request. -/
def Request.kind : Request → RequestKind
  | .report _ => .report | .priorityCall _ => .priorityCall
  | .priorityCancel _ => .priorityCancel | .readStatus _ => .readStatus
  | .readJunction _ => .readJunction | .readBand _ => .readBand
  | .readPlanHead _ => .readPlanHead | .writePlanHead _ => .writePlanHead
  | .readPlanGroup _ => .readPlanGroup | .writePlanGroup _ => .writePlanGroup
  | .erasePlan _ => .erasePlan | .checkPlan _ => .checkPlan
  | .readGeometryHead _ => .readGeometryHead | .writeGeometryHead _ => .writeGeometryHead
  | .readGeometryGroup _ => .readGeometryGroup | .writeGeometryGroup _ => .writeGeometryGroup
  | .checkGeometry => .checkGeometry | .readSelection _ => .readSelection
  | .writeSelection _ => .writeSelection | .pinPlan _ => .pinPlan | .pinBias _ => .pinBias
  | .releaseHold _ => .releaseHold | .enterHold => .enterHold | .resetUnit _ => .resetUnit
  | .resetEngine => .resetEngine

/-- The head fields of a plan in the order of R9, as READ_PLAN_HEAD and WRITE_PLAN_HEAD carry them. -/
def PlanHead.chars (h : PlanHead) : List Byte :=
  char2 h.c ++ char2 h.p ++
  [char1 h.anchor, char1 h.vIn, char1 h.vOut, char1 h.biasNominal, char1 h.biasMin,
   char1 h.biasMax] ++
  char2 h.gMin ++ char2 h.sMin ++
  [char1 h.dwellPct, char1 h.shortPct, char1 h.eMax, char1 h.xMax, char1 h.lockout,
   char1 h.gatePct]

/-- One plan junction entry in five characters. -/
def PlanEntry.chars (e : PlanEntry) : List Byte :=
  char2 e.share ++ charSigned e.trim ++ [flags3 e.follow e.priIn e.priOut]

/-- The writable geometry head fields in the order of R4. -/
def GeometryHead.chars (h : GeometryHead) : List Byte :=
  [char1 h.n, char1 h.reportPeriod, char1 h.downgradeLimit] ++
  char2 h.u1 ++ char2 h.u2 ++ char2 h.u3 ++ char2 h.d1 ++ char2 h.d2 ++ char2 h.d3 ++
  [char1 h.startPlan] ++ char2 h.selectionInterval ++
  [char1 h.pinLapse, char1 h.priorityExpiry, char1 h.holdOff]

/-- One geometry junction entry in three characters. -/
def GeometryEntry.chars (e : GeometryEntry) : List Byte := char1 e.address :: char2 e.position

/-- The six fields of a selection entry. -/
def SelectionEntry.chars (e : SelectionEntry) : List Byte :=
  [char1 (yesNo e.valid), char1 e.plan] ++ char2 e.low ++ char2 e.high ++
  [char1 e.dominance.code, char1 e.persistence]

/-- The payload of a request. -/
def Request.payload : Request → List Byte
  | .report b =>
    char2 b.inOccupancy ++ char2 b.outOccupancy ++
    [char1 b.inVolume, char1 b.outVolume, flags3 b.following b.inExit b.outExit]
  | .priorityCall b =>
    [char1 b.junction, char1 b.direction.code] ++ char2 b.tag ++ char2 b.eta
  | .priorityCancel b => char1 b.junction :: char2 b.tag
  | .readStatus b => [char1 b.clear.toNat, char1 b.page]
  | .readJunction b => [char1 b.index, char1 b.page]
  | .readBand page => [char1 page]
  | .readPlanHead b => [char1 b.index, char1 b.page]
  | .writePlanHead b => char1 b.plan :: b.head.chars
  | .readPlanGroup b => [char1 b.plan, char1 b.group, char1 b.page]
  | .writePlanGroup b =>
    [char1 b.plan, char1 b.group] ++ b.entries[0].chars ++ b.entries[1].chars ++
    b.entries[2].chars ++ b.entries[3].chars
  | .erasePlan plan => [char1 plan]
  | .checkPlan plan => [char1 plan]
  | .readGeometryHead page => [char1 page]
  | .writeGeometryHead h => h.chars
  | .readGeometryGroup b => [char1 b.index, char1 b.page]
  | .writeGeometryGroup b =>
    char1 b.group :: (b.entries[0].chars ++ b.entries[1].chars ++ b.entries[2].chars ++
    b.entries[3].chars)
  | .checkGeometry => []
  | .readSelection b => [char1 b.index, char1 b.page]
  | .writeSelection b => char1 b.index :: b.entry.chars
  | .pinPlan plan => [char1 plan]
  | .pinBias value => [char1 value]
  | .releaseHold plan => [char1 plan]
  | .enterHold => []
  | .resetUnit relatch => [char1 relatch.toNat]
  | .resetEngine => []

/-- The frame of a request, from one station to another, with the sender's sequence value. -/
def Request.frame (r : Request) (dest src seq : Nat) : Frame :=
  { dest := addressChar dest, src := addressChar src, kind := char1 r.kind.code,
    seq := char1 seq, payload := r.payload }

end Sys2Proof
end

