-- ==== Sys2Proof/Config.lean ====
section
/-! DEFINITION. The fixed sizes of the unit, each from its rule, the blank and erase values of the
stored records, and the free values: the values the spec does not state. A free value is an opaque constant, so nothing can be proved about which value
it is. -/

namespace Sys2Proof

/-! ### Blank and erase values of the stored records -/

/-- Blank geometry head fields (R3). -/
def GeometryHead.blank : GeometryHead :=
  { n := 2, reportPeriod := 30, downgradeLimit := 5, u1 := 300, u2 := 500, u3 := 700, d1 := 200,
    d2 := 400, d3 := 600, startPlan := 0, selectionInterval := 300, pinLapse := 0,
    priorityExpiry := 60, holdOff := 3 }

/-- The blank junction entry j (R3): address j + 1, position 0. -/
def GeometryEntry.blank (j : Nat) : GeometryEntry := { address := j + 1, position := 0 }

/-- The erase values of a plan head (R9). -/
def PlanHead.erased : PlanHead :=
  { c := 400, p := 0, anchor := 0, vIn := 20, vOut := 20, biasNominal := 50, biasMin := 0,
    biasMax := 100, gMin := 50, sMin := 50, dwellPct := 0, shortPct := 0, eMax := 0, xMax := 0,
    lockout := 0, gatePct := 100 }

/-- The erase values of a plan junction entry (R9). -/
def PlanEntry.erased : PlanEntry :=
  { share := 0, trim := 0, follow := false, priIn := false, priOut := false }

/-- The blank selection entry (R18). -/
def SelectionEntry.blank : SelectionEntry :=
  { valid := false, plan := 0, low := 0, high := 1000, dominance := .any, persistence := 1 }

/-- The strap levels of the reset state: every strap at its lowest level, so the address is 16, the rate
9,600 bit/s and the start level HOLD (DESIGN CHOICE, log 1: straps are wired outside the unit). -/
def Straps.lowest : Straps := { addrLo := .gnd, addrHi := .gnd, rate := .gnd, start := .hold }

end Sys2Proof

namespace Sys2Proof.Config

/-- Places of the line receive queue (R152) and of the centre receive queue (R162). -/
def rxPlaces : Nat := 4
/-- Places of the line REPLY queue, the frame in flight counted (R149, R154). -/
def lineReplyPlaces : Nat := 8
/-- Places of the centre reply queue, the reply in flight counted (R163). -/
def centreReplyPlaces : Nat := 4
/-- Places of the notice queue, the notice in flight not counted (R163). -/
def noticePlaces : Nat := 16
/-- Places of the priority list (R124). -/
def priorityPlaces : Nat := 8
/-- Steer credits after a refill (R155). -/
def steerCredits : Nat := 3
/-- Reply credits after a refill (R155). -/
def replyCredits : Nat := 1
/-- The loss count at which a frame is discarded (R157). -/
def lossLimit : Nat := 16
/-- The upper end of every error counter (R149, R162). -/
def counterMax : Nat := 65535
/-- The priority clock wraps at this value (R123). -/
def clockModulus : Nat := 4294967296
/-- The silence timer saturates at 120 minutes, in ds (R110). -/
def silenceMax : Nat := 72000
/-- The longest ETA a call is taken with (R125). -/
def etaMax : Nat := 600
/-- The clearance added to an extension (R128). -/
def extensionClearance : Nat := 20
/-- The largest step of the live bias at one evaluation (R102). -/
def slewStep : Nat := 10
/-- Characters of a page of a read result (R159). -/
def pageChars : Nat := 23

/-- FREE VALUE (DESIGN CHOICE, log 3): the seconds to the next evaluation that READ_STATUS returns
while the evaluation timer is stopped. R167 returns the item in every mode and no rule states its
value in HOLD and ENTERING. -/
opaque evaluationSecondsWhenStopped : Nat

/-- FREE VALUE (DESIGN CHOICE, log 4): the target offset that READ_JUNCTION returns for a junction the
active target set has no entry for. R168 states it for an empty set alone. -/
opaque targetWithoutEntry : Nat → Nat

/-- FREE VALUE (DESIGN CHOICE, log 5): the vehicle tag that READ_JUNCTION carries with an absent
extension record. -/
opaque tagOfAbsentExtension : Nat

/-- FREE VALUE (DESIGN CHOICE, log 5): the amount that READ_JUNCTION carries with an absent extension
record. -/
opaque amountOfAbsentExtension : Nat

end Sys2Proof.Config
end

