-- ==== Sys2Proof/Machine/State.lean ====
section
/-! DEFINITION. The state of the unit, block by block as the data sheet gives it, the queue of waiting
commands, the outcomes a command may have besides a next state, and the state after a hardware
reset of a unit that has never been written. -/

namespace Sys2Proof.Machine

open Sys2Proof

/-- A junction index (0..11). -/
abbrev Junction := Fin 12

/-- The index of a link-direction (0..10), R91 and R112. -/
abbrev LinkIndex := Fin 11

/-! ### Plan Store (chapter 1) -/

/-- The state of the geometry record (R3). -/
inductive GeometryState where
  | unchecked | valid
  deriving DecidableEq, Repr

/-- The last check fault of the geometry record (R3, R7). -/
inductive GeometryFault where
  | none | addressClash | positionOrder | linkShort | thresholdOrder | torn
  deriving DecidableEq, Repr

/-- The state of a plan record (R9). -/
inductive PlanState where
  | empty | unchecked | checked
  deriving DecidableEq, Repr

/-- The last check fault of a plan record (R9, R15); SIDE_TIME carries a junction index. -/
inductive PlanFault where
  | none | noGeometry | offsetRange | anchorRange | biasOrder | greenSide
  | sideTime (junction : Nat)
  | noBand | torn
  deriving DecidableEq, Repr

/-- The geometry record (R3). -/
structure Geometry where
  state   : GeometryState
  fault   : GeometryFault
  stamp   : Nat
  head    : GeometryHead
  entries : Vector GeometryEntry 12
  deriving DecidableEq, Repr

/-- A plan record (R9). -/
structure PlanRecord where
  state   : PlanState
  stamp   : Nat
  fault   : PlanFault
  head    : PlanHead
  entries : Vector PlanEntry 12
  deriving DecidableEq, Repr

/-- The working copy of everything the centre configures (chapter 1); plan p is at index p - 1. -/
structure Store where
  geometry  : Geometry
  plans     : Vector PlanRecord 24
  selection : Vector SelectionEntry 16
  deriving DecidableEq, Repr

/-- A record of retained memory (section 1.8). `erase` marks the state write of an ERASE_PLAN. -/
inductive RetentionRecord where
  | geometryHead
  | geometryGroup (group : Fin 3)
  | planHead (plan : Fin 24)
  | planGroup (plan : Fin 24) (group : Fin 3)
  | planState (plan : Fin 24) (erase : Bool)
  | selectionEntry (index : Fin 16)
  deriving DecidableEq, Repr

/-- What a torn plan state write was (R23). -/
inductive TornStateWrite where
  | check | erase
  deriving DecidableEq, Repr

/-- The retained copy of one plan with its erase mark (R24) and its torn records (R23). -/
structure RetainedPlan where
  record    : PlanRecord
  eraseMark : Bool
  headTorn  : Bool
  groupTorn : Vector Bool 3
  stateTorn : Option TornStateWrite
  deriving DecidableEq, Repr

/-- Retained memory (chapter 1, sections 1.8 and 1.9). -/
structure Retained where
  geometry      : Geometry
  headTorn      : Bool
  groupTorn     : Vector Bool 3
  plans         : Vector RetainedPlan 24
  selection     : Vector SelectionEntry 16
  selectionTorn : Vector Bool 16
  deriving DecidableEq, Repr

/-! ### Band Engine (chapter 2) -/

/-- The class of a junction under a plan (R14, R26). -/
inductive WindowClass where
  | uncoordinated | windowed | full
  deriving DecidableEq, Repr

/-- The roster state of a junction (R138). -/
inductive RosterState where
  | absent | silent | linked | degraded | lost
  deriving DecidableEq, Repr

/-- The per-junction entry of a target set (R26). -/
structure TargetEntry where
  target       : Nat
  cls          : WindowClass
  g            : Nat
  gEff         : Nat
  constraining : Bool
  deriving DecidableEq, Repr

/-- A published target set (R26); its entries are those of junctions 0..n-1 in order. -/
structure TargetSet where
  plan       : Nat
  generation : Nat
  c          : Nat
  n          : Nat
  bias       : Nat
  bandIn     : Nat
  bandOut    : Nat
  entries    : List TargetEntry
  deriving DecidableEq, Repr

/-- What a plan was to the Timebase when a snapshot was taken (R31). -/
inductive PlanRole where
  | entry | active | pending
  deriving DecidableEq, Repr

/-- The inputs of the computation in flight (R31). The vectors carry all twelve junctions and eleven
links; the computation reads those of junctions 0..n-1 alone. -/
structure Snapshot where
  plan      : Nat
  role      : PlanRole
  c         : Nat
  p         : Nat
  anchor    : Nat
  vIn       : Nat
  vOut      : Nat
  gMin      : Nat
  sMin      : Nat
  gatePct   : Nat
  shares    : Vector Nat 12
  trims     : Vector Int 12
  follows   : Vector Bool 12
  n         : Nat
  positions : Vector Nat 12
  bias      : Nat
  levelIn   : Vector Nat 11
  levelOut  : Vector Nat 11
  spillIn   : Vector Bool 11
  spillOut  : Vector Bool 11
  following : Vector Bool 12
  roster    : Vector RosterState 12
  deriving DecidableEq, Repr

/-- The Band Engine (R25). The engine state is COMPUTING exactly while a snapshot is held. -/
structure Engine where
  computing  : Option Snapshot
  again      : Bool
  void       : Bool
  generation : Nat
  active     : Option TargetSet
  pendingSet : Option TargetSet
  deriving DecidableEq, Repr

/-! ### Corridor Timebase and Window Generator (chapters 3 and 4) -/

/-- The corridor mode (R51). -/
inductive Mode where
  | hold | entering | run
  deriving DecidableEq, Repr

/-- The Corridor Timebase (R51). A plan of 0 is none. The divider is none when stopped, and otherwise
the ds to the next beat. -/
structure Timebase where
  mode        : Mode
  cc          : Nat
  c           : Nat
  active      : Nat
  pendingPlan : Nat
  entry       : Nat
  divider     : Option Nat
  beatSeq     : Nat
  deriving DecidableEq, Repr

/-- The seek state (R82). -/
inductive SeekState where
  | inStep | lengthen | shorten
  deriving DecidableEq, Repr

/-- An extension in force: the vehicle tag and the amount x (R123). -/
structure Extension where
  tag    : Nat
  amount : Nat
  deriving DecidableEq, Repr

/-- A local cycle record (R60). -/
structure LocalCycle where
  plan        : Nat
  lc          : Nat
  lcur        : Nat
  windowEnd   : Nat
  windowOpen  : Bool
  gEff        : Nat
  full        : Bool
  gate        : Bool
  offsetNow   : Nat
  targetUsed  : Nat
  seek        : SeekState
  delta       : Int
  lockout     : Nat
  actionTaken : Bool
  extension   : Option Extension
  deriving DecidableEq, Repr

/-- The events that the last decisecond made due and that have not been taken yet. This is the model's
own record (log 2): the spec's steps make each of them an event of its own in the ds in which it
falls due. -/
structure Due where
  boundary  : Bool
  localZero : Vector Bool 12
  beat      : Bool
  periodEnd : Bool
  deriving DecidableEq, Repr

/-! ### Demand Monitor, Plan Selector, Spillback Gate (chapters 5 and 6) -/

/-- The Demand Monitor's state of one junction (R91). -/
structure JunctionDemand where
  sIn       : Nat
  sOut      : Nat
  inVolume  : Nat
  outVolume : Nat
  deriving DecidableEq, Repr

/-- The Demand Monitor (R91). -/
structure Demand where
  junctions : Vector JunctionDemand 12
  levelIn   : Vector Nat 11
  levelOut  : Vector Nat 11
  deriving DecidableEq, Repr

/-- The Plan Selector (R100). The evaluation timer is none when stopped; it and the silence timer
count ds. -/
structure Selector where
  liveBias  : Nat
  planPin   : Option Nat
  biasPin   : Option Nat
  evalTimer : Option Nat
  candidate : Option Nat
  count     : Nat
  silence   : Nat
  deriving DecidableEq, Repr

/-- The spill state and clear-run count of one link-direction (R112). -/
structure Spill where
  isSet : Bool
  run   : Nat
  deriving DecidableEq, Repr

/-- The Spillback Gate (R112). -/
structure Gate where
  inbound  : Vector Spill 11
  outbound : Vector Spill 11
  deriving DecidableEq, Repr

/-! ### Priority Unit and Junction Roster (chapters 7 and 8) -/

/-- Who placed a priority call (R124). -/
inductive Source where
  | station (address : Nat)
  | centre
  deriving DecidableEq, Repr

/-- An entry of the priority list (R124). -/
structure PriorityEntry where
  junction  : Junction
  direction : Direction
  tag       : Nat
  source    : Source
  due       : Nat
  expiry    : Nat
  deriving DecidableEq, Repr

/-- The Priority Unit (R123), less the per-junction items, which R60's records hold. -/
structure Priority where
  clock : Nat
  list  : List PriorityEntry
  deriving DecidableEq, Repr

/-- The roster's state of one junction (R138). -/
structure RosterEntry where
  state     : RosterState
  misses    : Nat
  reports   : Nat
  following : Bool
  deriving DecidableEq, Repr

/-- The Junction Roster (R138). -/
structure Roster where
  junctions : Vector RosterEntry 12
  clock     : Nat
  deriving DecidableEq, Repr

/-! ### The two ports and the Request Handler (chapters 9 and 10) -/

/-- The line state (R151). -/
inductive LineState where
  | free | busy | fault
  deriving DecidableEq, Repr

/-- The reply codes, in the order of their codes (R159). -/
inductive ReplyCode where
  | ok | busy | inUse | notReady | wrongMode | refusedRights | badArgument | listFull | notFound
  | throttled | unknownKind
  deriving DecidableEq, Repr

/-- The priority action a steer or an outcome carries (R73, R131). -/
inductive PriorityAction where
  | none | early | extend | cut
  deriving DecidableEq, Repr

/-- Why an entry was dropped (R131). -/
inductive DropReason where
  | plan | lost | notFollowing | hold | engineReset
  deriving DecidableEq, Repr

/-- The outcome with which an entry leaves the priority list (R131). -/
inductive CallOutcome where
  | granted (action : PriorityAction) (amount : Nat)
  | expired
  | cancelled
  | dropped (reason : DropReason)
  deriving DecidableEq, Repr

/-- Why a spill state changed (R116). -/
inductive SpillReason where
  | flag | clearRun | lost | geometry
  deriving DecidableEq, Repr

/-- A steer with every field but LC, which is taken at the frame's start (R73). -/
structure Steer where
  junction  : Junction
  plan      : Nat
  lcur      : Nat
  windowEnd : Nat
  full      : Bool
  gate      : Bool
  seek      : SeekState
  offsetNow : Nat
  target    : Nat
  delta     : Int
  action    : PriorityAction
  amount    : Nat
  deriving DecidableEq, Repr

/-- A reply: where it goes, the request's sequence value, the code and the result (R159, R166). -/
structure Reply where
  dest   : Nat
  seq    : Byte
  code   : ReplyCode
  result : List Byte
  deriving DecidableEq, Repr

/-- An OUTCOME frame (R131, R159). -/
structure OutcomeFrame where
  dest      : Nat
  junction  : Junction
  direction : Direction
  tag       : Nat
  outcome   : CallOutcome
  deriving DecidableEq, Repr

/-- A frame of the REPLY queue (R154). -/
inductive ReplyItem where
  | reply (r : Reply)
  | outcome (o : OutcomeFrame)
  deriving DecidableEq, Repr

/-- What a frame of the Line Port carries, which also names its queue (R154). -/
inductive LineItem where
  | beat (seq : Nat)
  | steer (s : Steer)
  | queued (item : ReplyItem)
  deriving DecidableEq, Repr

/-- A beat waiting in the BEAT queue, with the losses it keeps (R157). -/
structure WaitingBeat where
  seq    : Nat
  losses : Nat
  deriving DecidableEq, Repr

/-- A steer waiting in the STEER queue. -/
structure WaitingSteer where
  steer  : Steer
  losses : Nat
  deriving DecidableEq, Repr

/-- A reply or OUTCOME frame waiting in the REPLY queue. -/
structure WaitingReply where
  item   : ReplyItem
  losses : Nat
  deriving DecidableEq, Repr

/-- The frame in flight (R149): what it carries, its loss count, the characters taken at its start
(R71, R73), and whether its STEER queue was emptied under it (R161). -/
structure InFlight where
  item     : LineItem
  losses   : Nat
  orphaned : Bool
  chars    : List Byte
  deriving DecidableEq, Repr

/-- The five error counters of a port (R149, R162). -/
structure RxCounters where
  framing     : Nat
  brokenFrame : Nat
  length      : Nat
  check       : Nat
  overrun     : Nat
  deriving DecidableEq, Repr

/-- The Line Port (R149). `replies` holds the waiting frames; a reply or OUTCOME in flight counts as
well (R154). -/
structure Line where
  state            : LineState
  rx               : List Frame
  beat             : Option WaitingBeat
  steers           : List WaitingSteer
  replies          : List WaitingReply
  inFlight         : Option InFlight
  steerCredit      : Nat
  replyCredit      : Nat
  errors           : RxCounters
  arbitrationDrops : Nat
  missedBeats      : Nat
  deriving DecidableEq, Repr

/-- What a notice reports (R159, notice kinds). -/
inductive NoticeBody where
  | planChanged (old new generation : Nat)
  | modeChanged (old new : Mode) (plan : Nat)
  | junctionState (junction : Junction) (address : Nat) (before after : RosterState) (misses : Nat)
  | spillback (direction : Direction) (k : LinkIndex) (isSet : Bool) (junction : Nat)
      (reason : SpillReason)
  | priorityOutcome (junction : Junction) (direction : Direction) (tag : Nat)
      (outcome : CallOutcome) (source : Source) (placed : Bool)
  | priorityCut (tag amount : Nat)
  | lineState (state : LineState)
  | pinLapsed (planPin biasPin : Option Nat)
  deriving DecidableEq, Repr

/-- A notice with the sequence value fixed in it (R163). -/
structure Notice where
  seq  : Nat
  body : NoticeBody
  deriving DecidableEq, Repr

/-- The frame the centre transmitter sends, with its characters (R163). -/
inductive CentreSending where
  | reply (r : Reply) (chars : List Byte)
  | notice (n : Notice) (chars : List Byte)
  deriving DecidableEq, Repr

/-- The Centre Port (R163, R164). `replies` holds the waiting replies; a reply in flight counts as
well. -/
structure Centre where
  rx        : List Frame
  replies   : List Reply
  notices   : List Notice
  sending   : Option CentreSending
  noticeSeq : Nat
  errors    : RxCounters
  deriving DecidableEq, Repr

/-- The port a request came by (R165). -/
inductive Port where
  | line | centre
  deriving DecidableEq, Repr

/-- An accepted RESET_UNIT that has not taken effect (R172). -/
structure PendingReset where
  relatch   : Bool
  replyDone : Bool
  deriving DecidableEq, Repr

/-- The Request Handler: the alternation pointer (R164) and an accepted RESET_UNIT (R172). -/
structure Handler where
  served : Port
  reset  : Option PendingReset
  deriving DecidableEq, Repr

/-! ### The whole state -/

/-- The state of the unit. `causeRaised` is the model's own: whether the event being taken has raised a
recompute cause (R28: several causes that arrive together are one arrival); it is false between
commands. `pending` is the queue of commands that wait, first in first out. -/
@[ext]
structure State where
  inReset     : Bool
  straps      : Straps
  store       : Store
  retention   : Option RetentionRecord
  retained    : Retained
  engine      : Engine
  timebase    : Timebase
  cycles      : Vector LocalCycle 12
  due         : Due
  demand      : Demand
  selector    : Selector
  gate        : Gate
  priority    : Priority
  roster      : Roster
  line        : Line
  centre      : Centre
  handler     : Handler
  causeRaised : Bool
  pending     : List Instr
  deriving DecidableEq, Repr

/-- Why the model stops with a fault. -/
inductive Fault where
  /-- Raised by LOCAL_ZERO, WINDOW_CLOSE and PRIORITY_EXPIRY when the command names a junction record
  beyond index 11, which the unit does not have (R60). Safe: no such event exists. -/
  | noSuchJunction
  deriving DecidableEq, Repr

/-- Why the model refuses a command. -/
inductive Refusal where
  /-- Raised by an arm of exec for a command without a meaning. No arm of this model raises it. Safe. -/
  | notModelled (mnemonic : String)
  deriving DecidableEq, Repr

/-! ### The values after a hardware reset of a unit that has never been written -/

/-- The blank junction entries (R3). -/
def blankEntries : Vector GeometryEntry 12 :=
  Vector.ofFn fun j => .blank j.val

/-- The blank geometry record (R3). -/
def Geometry.blank : Geometry :=
  { state := .unchecked, fault := .none, stamp := 1, head := .blank, entries := blankEntries }

/-- An EMPTY plan with erase values (R9, R13). -/
def PlanRecord.erased : PlanRecord :=
  { state := .empty, stamp := 0, fault := .none, head := .erased,
    entries := Vector.replicate 12 .erased }

/-- The working copy of a unit that has never been written (R24). -/
def Store.blank : Store :=
  { geometry := .blank, plans := Vector.replicate 24 .erased,
    selection := Vector.replicate 16 .blank }

/-- The retained copy of a plan that has never been written. -/
def RetainedPlan.blank : RetainedPlan :=
  { record := .erased, eraseMark := false, headTorn := false,
    groupTorn := Vector.replicate 3 false, stateTorn := none }

/-- The retained memory of a unit that has never been written (R24). -/
def Retained.blank : Retained :=
  { geometry := .blank, headTorn := false, groupTorn := Vector.replicate 3 false,
    plans := Vector.replicate 24 .blank, selection := Vector.replicate 16 .blank,
    selectionTorn := Vector.replicate 16 false }

/-- The Band Engine after a hardware reset (R25). -/
def Engine.initial : Engine :=
  { computing := none, again := false, void := false, generation := 0, active := none,
    pendingSet := none }

/-- The Corridor Timebase after a hardware reset (R51). -/
def Timebase.initial : Timebase :=
  { mode := .hold, cc := 0, c := 0, active := 0, pendingPlan := 0, entry := 0, divider := none,
    beatSeq := 0 }

/-- A local cycle record in HOLD (R61). -/
def LocalCycle.held : LocalCycle :=
  { plan := 0, lc := 0, lcur := 0, windowEnd := 0, windowOpen := false, gEff := 0, full := false,
    gate := false, offsetNow := 0, targetUsed := 0, seek := .inStep, delta := 0, lockout := 0,
    actionTaken := false, extension := none }

/-- No event is due. -/
def Due.nothing : Due :=
  { boundary := false, localZero := Vector.replicate 12 false, beat := false, periodEnd := false }

/-- The Demand Monitor's fields of one junction after a reset (R91). -/
def JunctionDemand.zero : JunctionDemand := { sIn := 0, sOut := 0, inVolume := 0, outVolume := 0 }

/-- The Demand Monitor after a reset (R91). -/
def Demand.initial : Demand :=
  { junctions := Vector.replicate 12 .zero, levelIn := Vector.replicate 11 0,
    levelOut := Vector.replicate 11 0 }

/-- The Plan Selector after a hardware reset (R100). -/
def Selector.initial : Selector :=
  { liveBias := 0, planPin := none, biasPin := none, evalTimer := none, candidate := none,
    count := 0, silence := 0 }

/-- A link-direction that is CLEAR (R112). -/
def Spill.clear : Spill := { isSet := false, run := 0 }

/-- The Spillback Gate after a reset (R112). -/
def Gate.initial : Gate :=
  { inbound := Vector.replicate 11 .clear, outbound := Vector.replicate 11 .clear }

/-- The Priority Unit after a hardware reset (R123). -/
def Priority.initial : Priority := { clock := 0, list := [] }

/-- A roster entry with its reset values: ABSENT at index N or above, SILENT below (R138). -/
def RosterEntry.initial (state : RosterState) : RosterEntry :=
  { state, misses := 0, reports := 0, following := false }

/-- The Junction Roster after a reset under junction count n (R138). -/
def Roster.initial (n : Nat) : Roster :=
  { junctions := Vector.ofFn fun j =>
      .initial (if j.val < n then RosterState.silent else RosterState.absent),
    clock := 0 }

/-- Counters at 0. -/
def RxCounters.zero : RxCounters :=
  { framing := 0, brokenFrame := 0, length := 0, check := 0, overrun := 0 }

/-- The Line Port after a hardware reset (R149). -/
def Line.initial : Line :=
  { state := .busy, rx := [], beat := none, steers := [], replies := [], inFlight := none,
    steerCredit := 3, replyCredit := 1, errors := .zero, arbitrationDrops := 0, missedBeats := 0 }

/-- The Centre Port after a hardware reset (R164). -/
def Centre.initial : Centre :=
  { rx := [], replies := [], notices := [], sending := none, noticeSeq := 0, errors := .zero }

/-- The Request Handler after a hardware reset (R164): the pointer names the centre. -/
def Handler.initial : Handler := { served := .centre, reset := none }

/-- The state right after a hardware reset of a unit whose retained memory has never been written and
whose straps stand at their lowest levels. -/
def State.reset : State :=
  { inReset := false
    straps := .lowest
    store := .blank
    retention := none
    retained := .blank
    engine := .initial
    timebase := .initial
    cycles := Vector.replicate 12 .held
    due := .nothing
    demand := .initial
    selector := .initial
    gate := .initial
    priority := .initial
    roster := .initial 2
    line := .initial
    centre := .initial
    handler := .initial
    causeRaised := false
    pending := [] }

end Sys2Proof.Machine
end

