-- ==== Sys2Proof/Machine/Flags.lean ====
section
/-! DEFINITION. What blocks read off the state without storing it: the plan a number names, READY and
in use, the station mapping, the links a junction measures and reports, the gate, the computing plan,
the demand indices, and which events are due. -/

namespace Sys2Proof.Machine

open Sys2Proof

/-! ### Junctions and links -/

/-- The twelve junction records in index order. -/
def allJunctions : List Junction := [0, 1, 2, 3, 4, 5, 6, 7, 8, 9, 10, 11]

/-- The eleven link indices in order. -/
def allLinks : List LinkIndex := [0, 1, 2, 3, 4, 5, 6, 7, 8, 9, 10]

/-- Entry `i` of a table, or `d` past its end. -/
def nth {α : Type} {n : Nat} (v : Vector α n) (i : Nat) (d : α) : α :=
  if h : i < n then v[i] else d

/-- The junction count N of the working copy of the geometry (R3). -/
def junctionCount (s : State) : Nat := s.store.geometry.head.n

/-- Junctions 0..N-1 in index order. -/
def liveJunctions (s : State) : List Junction :=
  allJunctions.filter fun j => decide (j.val < junctionCount s)

/-- The junction index a number names, if it is 0..11. -/
def junctionAt (j : Nat) : Option Junction := if h : j < 12 then some ⟨j, h⟩ else none

/-- Inbound link j-1, which junction j measures (R94) and whose far end it is: for j in 1..N-1. -/
def inboundBefore (n : Nat) (j : Junction) : Option LinkIndex :=
  if h : 1 ≤ j.val ∧ j.val < n then some ⟨j.val - 1, by have := j.isLt; omega⟩ else none

/-- Outbound link j, which junction j measures (R94): for j at most N-2. -/
def outboundAfter (n : Nat) (j : Junction) : Option LinkIndex :=
  if h : j.val + 1 < n ∧ j.val < 11 then some ⟨j.val, h.2⟩ else none

/-- Inbound link j, whose exit flag junction j reports (R113): for j at most N-2. -/
def inboundExit (n : Nat) (j : Junction) : Option LinkIndex := outboundAfter n j

/-- Outbound link j-1, whose exit flag junction j reports (R113): for j at least 1. -/
def outboundExit (n : Nat) (j : Junction) : Option LinkIndex := inboundBefore n j

/-- The lowest junction index among 0..N-1 whose entry holds the line address (R6). -/
def junctionOf (s : State) (address : Nat) : Option Junction :=
  (liveJunctions s).find? fun j => decide (s.store.geometry.entries[j].address = address)

/-! ### Plans -/

/-- The record of plan p; no plan has a number outside 1..24, and one is read there as erase values. -/
def Store.plan (st : Store) (p : Nat) : PlanRecord :=
  if 1 ≤ p then nth st.plans (p - 1) .erased else .erased

/-- Is the number that of a plan? -/
def isPlan (p : Nat) : Bool := decide (1 ≤ p) && decide (p ≤ 24)

/-- READY (R17): CHECKED under the stamp of the VALID geometry. -/
def ready (s : State) (p : Nat) : Bool :=
  decide ((s.store.plan p).state = .checked) && decide (s.store.geometry.state = .valid) &&
  decide ((s.store.plan p).stamp = s.store.geometry.stamp)

/-- In use (R12): active, pending, or, in ENTERING, being entered. -/
def inUse (s : State) (p : Nat) : Bool :=
  decide (s.timebase.active = p) || decide (s.timebase.pendingPlan = p) ||
  (decide (s.timebase.mode = .entering) && decide (s.timebase.entry = p))

/-- The computing plan and what it is to the Timebase (R29). -/
def computingRole (s : State) : Option (Nat × PlanRole) :=
  match s.timebase.mode with
  | .hold => none
  | .entering => some (s.timebase.entry, .entry)
  | .run =>
    if s.timebase.pendingPlan = 0 then some (s.timebase.active, .active)
    else some (s.timebase.pendingPlan, .pending)

/-- The id of the computing plan (R29). -/
def computingPlan (s : State) : Option Nat := (computingRole s).map Prod.fst

/-- The plan that bounds the live bias: the active plan in RUN, the entry plan in ENTERING (R105). -/
def biasPlan (s : State) : Nat :=
  match s.timebase.mode with
  | .entering => s.timebase.entry
  | _ => s.timebase.active

/-- A value brought into a plan's bias range (R105). -/
def clampBias (h : PlanHead) (v : Nat) : Nat := max h.biasMin (min v h.biasMax)

/-- The bias a plan is given when it is entered, switched to, or computed for as the pending plan: its
nominal, or the bias pin clamped into its range (R32, R53, R59). -/
def installedBias (s : State) (p : Nat) : Nat :=
  match s.selector.biasPin with
  | none => (s.store.plan p).head.biasNominal
  | some v => clampBias (s.store.plan p).head v

/-! ### The class and nominal window of a junction (R14) -/

/-- The effective share of junction j: the anchor's own share when j has FOLLOW set (R14). -/
def effectiveShare (shares : Vector Nat 12) (follows : Vector Bool 12) (anchor : Nat) (j : Nat) :
    Nat :=
  if nth follows j false && decide (j ≠ anchor) then nth shares anchor 0 else nth shares j 0

/-- The class an effective share gives (R14). -/
def classOf (share : Nat) : WindowClass :=
  if share = 0 then .uncoordinated else if share = 1000 then .full else .windowed

/-- The nominal window length of a windowed junction: C × s / 1000 rounded half up, at least G_min
(R14). -/
def nominalWindow (c gMin share : Nat) : Nat := max gMin ((c * share + 500) / 1000)

/-- The shares of a plan's entries. -/
def PlanRecord.shares (p : PlanRecord) : Vector Nat 12 := Vector.ofFn fun j => p.entries[j].share

/-- The FOLLOW flags of a plan's entries. -/
def PlanRecord.follows (p : PlanRecord) : Vector Bool 12 :=
  Vector.ofFn fun j => p.entries[j].follow

/-- The effective share of junction j under a plan record. -/
def PlanRecord.shareOf (p : PlanRecord) (j : Nat) : Nat :=
  effectiveShare p.shares p.follows p.head.anchor j

/-- The window of a gated junction (R33, R64): the larger of G_min and gate_pct of g for a windowed
junction, and for a full one that of C, no larger than C - S_min. -/
def gatedWindow (cls : WindowClass) (c gMin sMin gatePct g : Nat) : Nat :=
  match cls with
  | .uncoordinated => 0
  | .windowed => max gMin ((g * gatePct + 50) / 100)
  | .full => min (c - sMin) (max gMin ((c * gatePct + 50) / 100))

/-! ### The gate -/

/-- Is the link-direction SET? -/
def spillSet (g : Gate) (d : Direction) (k : LinkIndex) : Bool :=
  match d with
  | .inbound => g.inbound[k].isSet
  | .outbound => g.outbound[k].isSet

/-- Gated now (R117): either link-direction whose exit junction j reports is SET. -/
def gatedNow (s : State) (j : Junction) : Bool :=
  ((inboundExit (junctionCount s) j).any (spillSet s.gate .inbound)) ||
  ((outboundExit (junctionCount s) j).any (spillSet s.gate .outbound))

/-! ### Demand indices (R98, R99) -/

/-- The junctions counted in the demand indices (R98). -/
def countedJunctions (s : State) : List Junction :=
  (liveJunctions s).filter fun j =>
    decide (s.roster.junctions[j].state = .linked) ||
    decide (s.roster.junctions[j].state = .degraded)

/-- D_in (R98). -/
def demandIn (s : State) : Nat :=
  ((countedJunctions s).map fun j => s.demand.junctions[j].sIn).sum / (countedJunctions s).length

/-- D_out (R98). -/
def demandOut (s : State) : Nat :=
  ((countedJunctions s).map fun j => s.demand.junctions[j].sOut).sum / (countedJunctions s).length

/-- Total demand (R98). -/
def totalDemand (s : State) : Nat := (demandIn s + demandOut s) / 2

/-- The inbound part of the demand in per cent, rounded half up (R99). -/
def inboundShare (dIn dOut : Nat) : Nat := (100 * dIn + (dIn + dOut) / 2) / (dIn + dOut)

/-- The bias target (R99): the inbound share of the demand, or the nominal bias without demand,
clamped into the active plan's range. -/
def biasTarget (s : State) : Nat :=
  let h := (s.store.plan s.timebase.active).head
  clampBias h (if demandIn s + demandOut s = 0 then h.biasNominal
    else inboundShare (demandIn s) (demandOut s))

/-- The dominance (R99), judged before the clamp. -/
def dominanceNow (s : State) : Dominance :=
  if demandIn s + demandOut s = 0 then .balanced
  else if 55 ≤ inboundShare (demandIn s) (demandOut s) then .inbound
  else if inboundShare (demandIn s) (demandOut s) ≤ 45 then .outbound
  else .balanced

/-! ### Ports -/

/-- The line address latched from the straps (R169). -/
def strapLevel : StrapLevel → Nat
  | .gnd => 0 | .pulledDown => 1 | .pulledUp => 2 | .vdd => 3

/-- The address the unit answers at (R169): 16 to 31. -/
def unitAddress (s : State) : Nat :=
  16 + 4 * strapLevel s.straps.addrHi + strapLevel s.straps.addrLo

/-- The line rate in bit/s (R160, R169). -/
def lineRate (s : State) : Nat :=
  match s.straps.rate with
  | .gnd => 9600 | .pulledDown => 19200 | .pulledUp => 38400 | .vdd => 57600

/-- Is the frame one of the REPLY queue? (R154) -/
def LineItem.isReply : LineItem → Bool
  | .queued _ => true | .beat _ => false | .steer _ => false

/-- Frames the REPLY queue holds, the reply or OUTCOME in flight among them (R154). -/
def lineReplyCount (l : Line) : Nat :=
  l.replies.length + (l.inFlight.any fun f => f.item.isReply).toNat

/-- Is the centre transmitter sending a reply? -/
def CentreSending.isReply : CentreSending → Bool
  | .reply _ _ => true | .notice _ _ => false

/-- Replies the centre reply queue holds, the reply in flight among them (R163). -/
def centreReplyCount (c : Centre) : Nat :=
  c.replies.length + (c.sending.any fun f => f.isReply).toNat

/-! ### Clock times and due events -/

/-- How far a time on the priority clock lies ahead of the clock, and 0 when it has passed. Times are
compared by their difference, so the wrap does not matter (R123). -/
def timeAhead (clock t : Nat) : Nat :=
  let d := (t + Config.clockModulus - clock) % Config.clockModulus
  if d < Config.clockModulus / 2 then d else 0

/-- The time on the priority clock `d` ds from now. -/
def timeAfter (clock d : Nat) : Nat := (clock + d) % Config.clockModulus

/-- A listed entry whose expiry time the clock has reached (R135). -/
def expired (s : State) (e : PriorityEntry) : Bool :=
  decide (timeAhead s.priority.clock e.expiry = 0)

/-- The window of junction j is open, not full, and its LC has reached the window end (R62, R68). -/
def closeDue (r : LocalCycle) : Bool :=
  r.windowOpen && !r.full && decide (r.windowEnd ≤ r.lc)

/-- The silence timer stands at a pin lapse that is not 0, with a pin set (R110). -/
def lapseDue (s : State) : Bool :=
  let lapse := s.store.geometry.head.pinLapse
  decide (lapse ≠ 0) && decide (s.selector.silence = 600 * lapse) &&
  (s.selector.planPin.isSome || s.selector.biasPin.isSome)

/-- The evaluation timer has expired (R101). -/
def evaluationDue (s : State) : Bool :=
  decide (s.timebase.mode = .run) && decide (s.selector.evalTimer = some 0)

/-- Some event of the present ds has not been taken yet (log 2). -/
def somethingDue (s : State) : Bool :=
  s.due.boundary || s.due.beat || s.due.periodEnd ||
  (allJunctions.any fun j => s.due.localZero[j]) ||
  (decide (s.timebase.mode = .run) && (liveJunctions s).any fun j => closeDue s.cycles[j]) ||
  evaluationDue s || lapseDue s || s.priority.list.any (expired s)

end Sys2Proof.Machine
end

