-- ==== Sys2Proof/Machine/Wire.lean ====
section
/-! DEFINITION. How the unit's values are carried in characters (R159): the codes of named values, the
payloads of the frames it sends, and the results of the read requests. -/

namespace Sys2Proof.Machine

open Sys2Proof

/-! ### Codes of named values: the position in the list that defines the field (R159) -/

def Mode.code : Mode → Nat
  | .hold => 0 | .entering => 1 | .run => 2

def SeekState.code : SeekState → Nat
  | .inStep => 0 | .lengthen => 1 | .shorten => 2

def GeometryState.code : GeometryState → Nat
  | .unchecked => 0 | .valid => 1

def GeometryFault.code : GeometryFault → Nat
  | .none => 0 | .addressClash => 1 | .positionOrder => 2 | .linkShort => 3
  | .thresholdOrder => 4 | .torn => 5

def PlanState.code : PlanState → Nat
  | .empty => 0 | .unchecked => 1 | .checked => 2

/-- A plan's check fault in two characters: the fault, then its junction index or 0 (R159). -/
def PlanFault.chars : PlanFault → List Byte
  | .none => [char1 0, char1 0]
  | .noGeometry => [char1 1, char1 0]
  | .offsetRange => [char1 2, char1 0]
  | .anchorRange => [char1 3, char1 0]
  | .biasOrder => [char1 4, char1 0]
  | .greenSide => [char1 5, char1 0]
  | .sideTime j => [char1 6, char1 j]
  | .noBand => [char1 7, char1 0]
  | .torn => [char1 8, char1 0]

def WindowClass.code : WindowClass → Nat
  | .uncoordinated => 0 | .windowed => 1 | .full => 2

def RosterState.code : RosterState → Nat
  | .absent => 0 | .silent => 1 | .linked => 2 | .degraded => 3 | .lost => 4

def LineState.code : LineState → Nat
  | .free => 0 | .busy => 1 | .fault => 2

def ReplyCode.code : ReplyCode → Nat
  | .ok => 0 | .busy => 1 | .inUse => 2 | .notReady => 3 | .wrongMode => 4 | .refusedRights => 5
  | .badArgument => 6 | .listFull => 7 | .notFound => 8 | .throttled => 9 | .unknownKind => 10

def PriorityAction.code : PriorityAction → Nat
  | .none => 0 | .early => 1 | .extend => 2 | .cut => 3

def DropReason.code : DropReason → Nat
  | .plan => 0 | .lost => 1 | .notFollowing => 2 | .hold => 3 | .engineReset => 4

def SpillReason.code : SpillReason → Nat
  | .flag => 0 | .clearRun => 1 | .lost => 2 | .geometry => 3

/-- A field listed "set, clear" (R60): set is 0 and clear is 1 (DEDUCED, log 12). -/
def setClear (b : Bool) : Nat := if b then 0 else 1

/-- A field listed "open, closed" (R60). -/
def openClosed (b : Bool) : Nat := if b then 0 else 1

/-- A field listed "CLEAR, SET" (R112). -/
def clearSet (b : Bool) : Nat := if b then 1 else 0

/-- A priority source: the station's address, or 0 for CENTRE (R159). -/
def Source.code : Source → Nat
  | .station a => a | .centre => 0

/-- A plan pin or candidate: 0 for none (R159). -/
def planOrNone (p : Option Nat) : Nat := p.getD 0

/-- A bias pin: 255 for none (R159). -/
def biasOrNone (b : Option Nat) : Nat := b.getD 255

/-! ### Frames the unit sends -/

/-- A frame from the unit to a line address. -/
def unitFrame (s : State) (dest kind : Nat) (seq : Byte) (payload : List Byte) : Frame :=
  { dest := addressChar dest, src := addressChar (unitAddress s), kind := char1 kind, seq, payload }

/-- The payload of a beat, every field taken from the state at the frame's start (R71). -/
def beatPayload (s : State) : List Byte :=
  char2 s.timebase.cc ++ char2 s.timebase.c ++
  [char1 s.timebase.active, char1 s.timebase.pendingPlan, char1 s.timebase.mode.code,
   char1 s.selector.liveBias]

/-- The flags character of a steer: bit 0 full, bit 1 gate, bits 2 and 3 seek state (R159). -/
def steerFlags (st : Steer) : Byte :=
  char1 (st.full.toNat + 2 * st.gate.toNat + 4 * st.seek.code)

/-- The payload of a steer; LC is the junction's at the frame's start (R73). -/
def steerPayload (s : State) (st : Steer) : List Byte :=
  [char1 st.junction.val, char1 st.plan] ++ char2 st.lcur ++ char2 st.windowEnd ++
  [steerFlags st] ++ char2 s.cycles[st.junction].lc ++ char2 st.offsetNow ++ char2 st.target ++
  charSigned st.delta ++ [char1 st.action.code, char1 st.amount]

/-- Outcome, action and amount of an OUTCOME frame; action and amount are 0 unless GRANTED (R159). -/
def CallOutcome.chars : CallOutcome → List Byte
  | .granted action amount => [char1 0, char1 action.code, char1 amount]
  | .expired => [char1 1, char1 0, char1 0]
  | .cancelled => [char1 2, char1 0, char1 0]
  | .dropped _ => [char1 3, char1 0, char1 0]

/-- The payload of an OUTCOME frame (R159). -/
def OutcomeFrame.payload (o : OutcomeFrame) : List Byte :=
  [char1 o.junction.val, char1 o.direction.code] ++ char2 o.tag ++ o.outcome.chars

/-- The payload of a reply: the code, then the result, present for OK alone (R159). -/
def Reply.payload (r : Reply) : List Byte := char1 r.code.code :: r.result

/-- The frame of a reply (R159). -/
def replyFrame (s : State) (r : Reply) : Frame := unitFrame s r.dest Sys2Proof.replyCode r.seq r.payload

/-- The frame a line item is sent as, formed at its start. -/
def lineFrame (s : State) : LineItem → Frame
  | .beat seq => unitFrame s 0 beatCode (char1 seq) (beatPayload s)
  | .steer st =>
    unitFrame s s.store.geometry.entries[st.junction].address steerCode (char1 0) (steerPayload s st)
  | .queued (.reply r) => replyFrame s r
  | .queued (.outcome o) => unitFrame s o.dest outcomeCode (char1 0) o.payload

/-- The reason a DROPPED notice carries (R131); other outcomes carry none (DEDUCED, log 13). -/
def CallOutcome.reasonChars : CallOutcome → List Byte
  | .dropped reason => [char1 reason.code]
  | _ => []

/-- The payload of a notice: its kind, then its fields in the order of the rule that queues it (R159;
the layouts DEDUCED in log 13). -/
def NoticeBody.payload : NoticeBody → List Byte
  | .planChanged old new generation => [char1 0, char1 old, char1 new] ++ char2 generation
  | .modeChanged old new plan => [char1 1, char1 old.code, char1 new.code, char1 plan]
  | .junctionState j address before after misses =>
    [char1 2, char1 j.val, char1 address, char1 before.code, char1 after.code, char1 misses]
  | .spillback d k isSet j reason =>
    [char1 3, char1 d.code, char1 k.val, char1 (clearSet isSet), char1 j, char1 reason.code]
  | .priorityOutcome j d tag outcome source placed =>
    [char1 4, char1 j.val, char1 d.code] ++ char2 tag ++ outcome.chars ++ [char1 source.code] ++
    outcome.reasonChars ++ [char1 (yesNo placed)]
  | .priorityCut tag amount => [char1 4, char1 4] ++ char2 tag ++ [char1 amount]
  | .lineState st => [char1 5, char1 st.code]
  | .pinLapsed planPin biasPin => [char1 6, char1 (planOrNone planPin), char1 (biasOrNone biasPin)]

/-- The frame of a notice: to address 0, with the notice sequence (R163). -/
def noticeFrame (s : State) (n : Notice) : Frame :=
  unitFrame s 0 noticeCode (char1 n.seq) n.body.payload

/-! ### Results of read requests (R159, R167, R168) -/

/-- Page p of a result: its characters 23p to 23p + 22; none beyond the last page (R159). -/
def pageOf (result : List Byte) (page : Nat) : Option (List Byte) :=
  if page * Config.pageChars < result.length then
    some ((result.drop (page * Config.pageChars)).take Config.pageChars)
  else none

/-- The record being written: its kind, first index and second index, 0 when IDLE (R159). -/
def recordChars : Option RetentionRecord → List Byte
  | none => [char1 0, char1 0, char1 0]
  | some .geometryHead => [char1 1, char1 0, char1 0]
  | some (.geometryGroup g) => [char1 2, char1 g.val, char1 0]
  | some (.planHead p) => [char1 3, char1 (p.val + 1), char1 0]
  | some (.planGroup p g) => [char1 4, char1 (p.val + 1), char1 g.val]
  | some (.planState p _) => [char1 5, char1 (p.val + 1), char1 0]
  | some (.selectionEntry i) => [char1 6, char1 i.val, char1 0]

/-- Seconds of a count of ds, rounded half up (section Rounding; log 10). -/
def secondsOf (ds : Nat) : Nat := (ds + 5) / 10

/-- Minutes of a count of ds, rounded half up (section Rounding; log 10). -/
def minutesOf (ds : Nat) : Nat := (ds + 300) / 600

/-- The ds to the next period end: the advance that brings the report clock to 10 × R, and at least one
(R140; log 11). -/
def dsToPeriodEnd (s : State) : Nat :=
  max 1 (10 * s.store.geometry.head.reportPeriod - s.roster.clock)

/-- The seconds to the next evaluation; free while the timer is stopped (log 3). -/
def secondsToEvaluation (s : State) : Nat :=
  match s.selector.evalTimer with
  | some t => secondsOf t
  | none => Config.evaluationSecondsWhenStopped

/-- The five error counters of a port in their order (R149). -/
def RxCounters.chars (c : RxCounters) : List Byte :=
  char2 c.framing ++ char2 c.brokenFrame ++ char2 c.length ++ char2 c.check ++ char2 c.overrun

/-- A priority entry with all six fields in the order of R124. -/
def PriorityEntry.chars (e : PriorityEntry) : List Byte :=
  [char1 e.junction.val, char1 e.direction.code] ++ char2 e.tag ++ [char1 e.source.code] ++
  char4 e.due ++ char4 e.expiry

/-- The READ_STATUS result (R167), item by item. -/
def statusResult (s : State) : List Byte :=
  -- 1. Corridor Timebase
  [char1 s.timebase.mode.code] ++ char2 s.timebase.cc ++ char2 s.timebase.c ++
  [char1 s.timebase.active, char1 s.timebase.pendingPlan, char1 s.timebase.entry,
   char1 s.timebase.beatSeq] ++
  -- 2. Band Engine
  [char1 (if s.engine.computing.isSome then 1 else 0), char1 (yesNo s.engine.pendingSet.isSome)] ++
  char2 ((s.engine.pendingSet.map TargetSet.generation).getD 0) ++ char2 s.engine.generation ++
  -- 3. Plan Store
  [char1 (if s.retention.isSome then 1 else 0)] ++ recordChars s.retention ++
  -- 4. Plan Selector
  [char1 s.selector.liveBias, char1 (planOrNone s.selector.planPin),
   char1 (biasOrNone s.selector.biasPin), char1 (planOrNone s.selector.candidate),
   char1 s.selector.count] ++
  char2 (secondsToEvaluation s) ++ [char1 (minutesOf s.selector.silence)] ++
  -- 5. Demand indices
  char2 (demandIn s) ++ char2 (demandOut s) ++ char2 (totalDemand s) ++
  [char1 (dominanceNow s).code,
   char1 (if s.timebase.mode = .run then biasTarget s else 0)] ++
  -- 6. Junction Roster
  (allJunctions.map fun j => char1 (s.roster.junctions[j].state.code)) ++
  char2 (dsToPeriodEnd s) ++
  -- 7. Priority Unit
  char4 s.priority.clock ++ [char1 s.priority.list.length] ++
  s.priority.list.flatMap PriorityEntry.chars ++
  -- 8. Line Port
  [char1 s.line.state.code, char1 (if s.line.beat.isSome then 1 else 0),
   char1 s.line.steers.length, char1 (lineReplyCount s.line), char1 s.line.rx.length,
   char1 s.line.steerCredit, char1 s.line.replyCredit] ++
  s.line.errors.chars ++ char2 s.line.arbitrationDrops ++ char2 s.line.missedBeats ++
  -- 9. Centre port
  [char1 s.centre.rx.length, char1 (centreReplyCount s.centre), char1 s.centre.notices.length,
   char1 s.centre.noticeSeq] ++
  s.centre.errors.chars

/-- The fields of a local cycle record but the extension record, in the order of R60. -/
def LocalCycle.chars (r : LocalCycle) : List Byte :=
  [char1 r.plan] ++ char2 r.lc ++ char2 r.lcur ++ char2 r.windowEnd ++
  [char1 (openClosed r.windowOpen)] ++ char2 r.gEff ++
  [char1 (setClear r.full), char1 (setClear r.gate)] ++ char2 r.offsetNow ++ char2 r.targetUsed ++
  [char1 r.seek.code] ++ charSigned r.delta ++
  [char1 r.lockout, char1 (setClear r.actionTaken)]

/-- The extension record: listed "absent, or present" (R60), then its tag and amount (R168; free when
absent, log 5). -/
def extensionChars : Option Extension → List Byte
  | none =>
    [char1 0] ++ char2 Config.tagOfAbsentExtension ++ [char1 Config.amountOfAbsentExtension]
  | some e => [char1 1] ++ char2 e.tag ++ [char1 e.amount]

/-- The target offset of junction j in the active target set: 0 when the set is empty (R168), free when
the set has no entry for it (log 4). -/
def targetRead (s : State) (j : Nat) : Nat :=
  match s.engine.active with
  | none => 0
  | some set =>
    match set.entries[j]? with
    | some e => e.target
    | none => Config.targetWithoutEntry j

/-- The level of a link-direction, 0 where it does not exist (R168). -/
def levelRead (levels : Vector Nat 11) (k : Option LinkIndex) : Nat :=
  match k with
  | some k => levels[k]
  | none => 0

/-- The spill state and count of a link-direction, CLEAR and 0 where it does not exist (R168). -/
def spillChars (spills : Vector Spill 11) (k : Option LinkIndex) : List Byte :=
  match k with
  | some k => [char1 (clearSet spills[k].isSet), char1 spills[k].run]
  | none => [char1 0, char1 0]

/-- The READ_JUNCTION result (R168), item by item. -/
def junctionResult (s : State) (j : Junction) : List Byte :=
  let n := junctionCount s
  -- 1. the local cycle record
  s.cycles[j].chars ++ extensionChars s.cycles[j].extension ++
  -- 2. gated now, target offset
  [char1 (yesNo (gatedNow s j))] ++ char2 (targetRead s j.val) ++
  -- 3. Junction Roster
  [char1 s.roster.junctions[j].state.code, char1 s.roster.junctions[j].misses,
   char1 s.roster.junctions[j].reports, char1 (setClear s.roster.junctions[j].following)] ++
  -- 4. Demand Monitor
  char2 s.demand.junctions[j].sIn ++ char2 s.demand.junctions[j].sOut ++
  [char1 s.demand.junctions[j].inVolume, char1 s.demand.junctions[j].outVolume,
   char1 (levelRead s.demand.levelIn (inboundBefore n j)),
   char1 (levelRead s.demand.levelOut (outboundAfter n j))] ++
  -- 5. Spillback Gate
  spillChars s.gate.inbound (inboundExit n j) ++ spillChars s.gate.outbound (outboundExit n j)

/-- One junction of a target set as READ_BAND returns it (R50). -/
def TargetEntry.chars (e : TargetEntry) : List Byte :=
  char2 e.target ++ [char1 e.cls.code] ++ char2 e.g ++ char2 e.gEff ++
  [char1 (yesNo e.constraining)]

/-- The corridor-wide fields of a target set, then its junctions (R50). -/
def TargetSet.chars (t : TargetSet) : List Byte :=
  [char1 t.plan] ++ char2 t.generation ++ char2 t.c ++ [char1 t.n, char1 t.bias] ++
  char2 t.bandIn ++ char2 t.bandOut ++ t.entries.flatMap TargetEntry.chars

/-- The READ_BAND result: an empty set is plan 0 with every field 0 and no junctions (R50). -/
def bandResult (s : State) : List Byte :=
  match s.engine.active with
  | some t => t.chars
  | none => List.replicate 11 (char1 0)

/-- The READ_PLAN_HEAD result (R16). -/
def planHeadResult (s : State) (p : Nat) : List Byte :=
  let r := s.store.plan p
  [char1 r.state.code] ++ char2 r.stamp ++ r.fault.chars ++
  [char1 (yesNo (ready s p)), char1 (yesNo (inUse s p))] ++ r.head.chars

/-- Entry k of group g (0..2). -/
def inGroup (g k : Nat) : Nat := 4 * g + k

/-- The READ_PLAN_GROUP result (R16), each entry laid out as WRITE_PLAN_GROUP carries it (log 13). -/
def planGroupResult (s : State) (p g : Nat) : List Byte :=
  let entry k := nth (s.store.plan p).entries (inGroup g k) .erased
  (entry 0).chars ++ (entry 1).chars ++ (entry 2).chars ++ (entry 3).chars

/-- The READ_GEOMETRY_HEAD result: every head field in the order of R3. -/
def geometryHeadResult (s : State) : List Byte :=
  let g := s.store.geometry
  [char1 g.state.code, char1 g.fault.code] ++ char2 g.stamp ++ g.head.chars

/-- The READ_GEOMETRY_GROUP result. -/
def geometryGroupResult (s : State) (g : Nat) : List Byte :=
  let entry k := nth s.store.geometry.entries (inGroup g k) (.blank 0)
  (entry 0).chars ++ (entry 1).chars ++ (entry 2).chars ++ (entry 3).chars

/-- The READ_SELECTION result: the six fields in the order of R18. -/
def selectionResult (s : State) (i : Nat) : List Byte := (nth s.store.selection i .blank).chars

end Sys2Proof.Machine
end

