-- ==== Sys2Proof/Machine/Ops.lean ====
section
/-! DEFINITION. The named operations that every command is built from: the update of each block, the
frames and notices the unit queues, the start of frames on the two ports, replies, and recompute
causes. -/

namespace Sys2Proof.Machine

open Sys2Proof

/-! ### The update of one block -/

/-- The state with `inReset` replaced. -/
def State.setInReset (s : State) (v : Bool) : State := { s with inReset := v }

/-- The state with `straps` replaced. -/
def State.setStraps (s : State) (v : Straps) : State := { s with straps := v }

/-- The state with `store` replaced. -/
def State.setStore (s : State) (v : Store) : State := { s with store := v }

/-- The state with `retention` replaced. -/
def State.setRetention (s : State) (v : Option RetentionRecord) : State := { s with retention := v }

/-- The state with `retained` replaced. -/
def State.setRetained (s : State) (v : Retained) : State := { s with retained := v }

/-- The state with `engine` replaced. -/
def State.setEngine (s : State) (v : Engine) : State := { s with engine := v }

/-- The state with `timebase` replaced. -/
def State.setTimebase (s : State) (v : Timebase) : State := { s with timebase := v }

/-- The state with `cycles` replaced. -/
def State.setCycles (s : State) (v : Vector LocalCycle 12) : State := { s with cycles := v }

/-- The state with `due` replaced. -/
def State.setDue (s : State) (v : Due) : State := { s with due := v }

/-- The state with `demand` replaced. -/
def State.setDemand (s : State) (v : Demand) : State := { s with demand := v }

/-- The state with `selector` replaced. -/
def State.setSelector (s : State) (v : Selector) : State := { s with selector := v }

/-- The state with `gate` replaced. -/
def State.setGate (s : State) (v : Gate) : State := { s with gate := v }

/-- The state with `priority` replaced. -/
def State.setPriority (s : State) (v : Priority) : State := { s with priority := v }

/-- The state with `roster` replaced. -/
def State.setRoster (s : State) (v : Roster) : State := { s with roster := v }

/-- The state with `line` replaced. -/
def State.setLine (s : State) (v : Line) : State := { s with line := v }

/-- The state with `centre` replaced. -/
def State.setCentre (s : State) (v : Centre) : State := { s with centre := v }

/-- The state with `handler` replaced. -/
def State.setHandler (s : State) (v : Handler) : State := { s with handler := v }

/-- The state with `causeRaised` replaced. -/
def State.setCauseRaised (s : State) (v : Bool) : State := { s with causeRaised := v }

/-- The state with `pending` replaced. -/
def State.setPending (s : State) (v : List Instr) : State := { s with pending := v }

/-- The state with the local cycle record of junction j replaced. -/
def setCycle (s : State) (j : Junction) (r : LocalCycle) : State :=
  s.setCycles (s.cycles.set j.val r j.isLt)

/-- The state with the roster entry of junction j replaced. -/
def setRosterEntry (s : State) (j : Junction) (r : RosterEntry) : State :=
  s.setRoster { s.roster with junctions := s.roster.junctions.set j.val r j.isLt }

/-- The state with the demand fields of junction j replaced. -/
def setJunctionDemand (s : State) (j : Junction) (d : JunctionDemand) : State :=
  s.setDemand { s.demand with junctions := s.demand.junctions.set j.val d j.isLt }

/-- A counter raised by one, which saturates at 65,535: so R153 and R162 say of the five error counters of
a port, and so the model takes the arbitration-drop and missed-beat counts, of which R149 gives the
range alone (DESIGN CHOICE, log 33). -/
def bump (v : Nat) : Nat := min Config.counterMax (v + 1)

/-- The counter of a receive fault raised by one (R153). -/
def RxCounters.raise (c : RxCounters) : RxFault → RxCounters
  | .framing => { c with framing := bump c.framing }
  | .brokenFrame => { c with brokenFrame := bump c.brokenFrame }
  | .length => { c with length := bump c.length }
  | .check => { c with check := bump c.check }
  | .overrun => { c with overrun := bump c.overrun }

/-! ### Recompute causes (R28, R30) -/

/-- An event raises a recompute cause. Several causes of one event are one arrival (R28). -/
def raiseCause (s : State) : State := s.setCauseRaised true

/-- Raise a cause when the condition holds. -/
def raiseCauseIf (b : Bool) (s : State) : State := if b then raiseCause s else s

/-! ### The Centre Port (R163) -/

/-- Start the next frame when the transmitter is idle: the oldest reply, otherwise the oldest notice.
After the reply of a RESET_UNIT nothing more is started (R164, R172). -/
def startCentre (s : State) : State :=
  if s.centre.sending.isSome || s.handler.reset.any (fun r => r.replyDone) then s
  else
    match s.centre.replies with
    | r :: rest =>
      s.setCentre { s.centre with replies := rest, sending := some (.reply r (replyFrame s r).chars) }
    | [] =>
      match s.centre.notices with
      | n :: rest =>
        s.setCentre
          { s.centre with notices := rest, sending := some (.notice n (noticeFrame s n).chars) }
      | [] => s

/-- The notices that stay when one more is queued: the oldest is removed from a full queue (R163). -/
def makeRoom (notices : List Notice) : List Notice :=
  if notices.length < Config.noticePlaces then notices else notices.drop 1

/-- Queue a notice with the next notice sequence value (R163). -/
def queueNotice (body : NoticeBody) (s : State) : State :=
  let seq := (s.centre.noticeSeq + 1) % 256
  startCentre (s.setCentre
    { s.centre with notices := makeRoom s.centre.notices ++ [{ seq, body }], noticeSeq := seq })

/-! ### The Line Port: choice and start of a frame (R154, R155) -/

/-- Start an item on the line: it leaves its queue and its characters are taken now (R71, R73, R154). -/
def launch (s : State) (l : Line) (item : LineItem) (losses : Nat) : State :=
  let flight : InFlight := { item, losses, orphaned := false, chars := (lineFrame s item).chars }
  s.setLine { l with inFlight := some flight }

/-- The oldest waiting frame of the REPLY queue, when its credit allows (R155, row 3). -/
def chooseReply (s : State) (l : Line) : Option State :=
  match l.replies with
  | [] => none
  | r :: rest =>
    if 0 < l.replyCredit then some (launch s { l with replies := rest } (.queued r.item) r.losses)
    else none

/-- The oldest steer, when its credit allows, otherwise row 3 (R155, rows 2 and 3). -/
def chooseByCredit (s : State) (l : Line) : Option State :=
  match l.steers with
  | [] => chooseReply s l
  | w :: rest =>
    if 0 < l.steerCredit then some (launch s { l with steers := rest } (.steer w.steer) w.losses)
    else chooseReply s l

/-- The Line Port's choice while the line is FREE with no frame in flight (R155): a beat, then by the
credits, which are refilled when they bar every waiting frame (row 4). -/
def startLine (s : State) : State :=
  if s.line.state = .free ∧ s.line.inFlight = none then
    match s.line.beat with
    | some b => launch s { s.line with beat := none } (.beat b.seq) b.losses
    | none =>
      match chooseByCredit s s.line with
      | some s' => s'
      | none =>
        if s.line.steers.isEmpty && s.line.replies.isEmpty then s
        else
          let refilled : Line :=
            { s.line with steerCredit := Config.steerCredits, replyCredit := Config.replyCredits }
          (chooseByCredit s refilled).getD s
  else s

/-! ### Frames placed in the line queues (R154) -/

/-- Queue a beat with the next beat sequence value (R70). A beat already waiting is replaced, and the
missed-beat count rises (R154, R158), saturating at 65,535 (DESIGN CHOICE, log 33). -/
def queueBeat (s : State) : State :=
  let seq := (s.timebase.beatSeq + 1) % 256
  let missed := if s.line.beat.isSome then bump s.line.missedBeats else s.line.missedBeats
  startLine ((s.setTimebase { s.timebase with beatSeq := seq }).setLine
    { s.line with beat := some { seq, losses := 0 }, missedBeats := missed })

/-- A new steer among the waiting ones: it takes the place of a steer for the same junction, and
otherwise is added at the end (R154). -/
def placeSteer (st : Steer) : List WaitingSteer → List WaitingSteer
  | [] => [{ steer := st, losses := 0 }]
  | w :: rest =>
    if w.steer.junction = st.junction then { steer := st, losses := 0 } :: rest
    else w :: placeSteer st rest

/-- The steer of junction j's record with a priority action (R73). -/
def steerOf (s : State) (j : Junction) (action : PriorityAction) (amount : Nat) : Steer :=
  let r := s.cycles[j]
  { junction := j, plan := r.plan, lcur := r.lcur, windowEnd := r.windowEnd, full := r.full,
    gate := r.gate, seek := r.seek, offsetNow := r.offsetNow, target := r.targetUsed,
    delta := r.delta, action, amount }

/-- Queue a steer for junction j (R72). -/
def queueSteer (j : Junction) (action : PriorityAction) (amount : Nat) (s : State) : State :=
  startLine (s.setLine { s.line with steers := placeSteer (steerOf s j action amount) s.line.steers })

/-- Add a frame at the end of the REPLY queue (R154). -/
def queueLineReply (item : ReplyItem) (s : State) : State :=
  startLine (s.setLine { s.line with replies := s.line.replies ++ [{ item, losses := 0 }] })

/-- Empty the STEER queue; a steer in flight is no longer returned when it loses (R56, R161). -/
def emptySteers (s : State) : State :=
  s.setLine { s.line with
    steers := []
    inFlight := s.line.inFlight.map fun f =>
      match f.item with
      | .steer _ => { f with orphaned := true }
      | _ => f }

/-- Empty the BEAT queue, which raises no missed-beat count (R161). -/
def emptyBeat (s : State) : State := s.setLine { s.line with beat := none }

/-! ### Replies (R165, R166) -/

/-- Queue the reply to a request on the port it came by (R166). -/
def queueReply (port : Port) (f : Frame) (code : ReplyCode) (result : List Byte) (s : State) : State :=
  let r : Reply := { dest := addressOf f.src, seq := f.seq, code, result }
  match port with
  | .line => queueLineReply (.reply r) s
  | .centre => startCentre (s.setCentre { s.centre with replies := s.centre.replies ++ [r] })

/-- The first refusal of an ordered list that applies, and OK when none does. -/
def firstRefusal : List (Bool × ReplyCode) → ReplyCode
  | [] => .ok
  | (applies, code) :: rest => if applies then code else firstRefusal rest

end Sys2Proof.Machine
end

