-- ==== Sys2Proof/Machine/PlanStore.lean ====
section
/-! DEFINITION. The Plan Store (chapter 1): the ranges of the stored fields, the geometry and plan
checks, the replacement of records, retention, torn records and loading. -/

namespace Sys2Proof.Machine

open Sys2Proof

/-! ### Ranges (R3, R9, R18) -/

/-- lo ≤ v ≤ hi. -/
def within (lo hi v : Nat) : Bool := decide (lo ≤ v) && decide (v ≤ hi)

/-- Every writable geometry head field lies in its range (R3). -/
def geometryHeadInRange (h : GeometryHead) : Bool :=
  within 2 12 h.n && within 10 120 h.reportPeriod && within 3 15 h.downgradeLimit &&
  within 0 1000 h.u1 && within 0 1000 h.u2 && within 0 1000 h.u3 &&
  within 0 1000 h.d1 && within 0 1000 h.d2 && within 0 1000 h.d3 &&
  within 0 24 h.startPlan && within 60 900 h.selectionInterval && within 0 120 h.pinLapse &&
  within 10 120 h.priorityExpiry && within 1 8 h.holdOff

/-- A geometry junction entry lies in its range (R3, R5). -/
def geometryEntryInRange (e : GeometryEntry) : Bool :=
  within 1 15 e.address && within 0 12000 e.position

/-- Every plan head field lies in its range (R9). -/
def planHeadInRange (h : PlanHead) : Bool :=
  within 400 2400 h.c && within 0 2399 h.p && within 0 11 h.anchor && within 20 80 h.vIn &&
  within 20 80 h.vOut && within 0 100 h.biasNominal && within 0 100 h.biasMin &&
  within 0 100 h.biasMax && within 50 300 h.gMin && within 50 600 h.sMin &&
  within 0 50 h.dwellPct && within 0 30 h.shortPct && within 0 200 h.eMax && within 0 200 h.xMax &&
  within 0 7 h.lockout && within 30 100 h.gatePct

/-- A plan junction entry lies in its range (R9, R11). -/
def planEntryInRange (e : PlanEntry) : Bool :=
  within 0 1000 e.share && decide (-600 ≤ e.trim) && decide (e.trim ≤ 600)

/-- A selection entry lies in its ranges, its demand bounds are in order, and a valid one names a plan
(R18). -/
def selectionEntryInRange (e : SelectionEntry) : Bool :=
  within 0 24 e.plan && within 0 1000 e.low && within 0 1000 e.high && within 1 15 e.persistence &&
  decide (e.low ≤ e.high) && !(e.valid && decide (e.plan = 0))

/-! ### CHECK_GEOMETRY (R7) -/

/-- Two of junctions 0..N-1 hold the same line address. -/
def addressClash (g : Geometry) : Bool :=
  allJunctions.any fun i => allJunctions.any fun j =>
    decide (i.val < j.val) && decide (j.val < g.head.n) &&
    decide (g.entries[i].address = g.entries[j].address)

/-- The position of entry i. -/
def Geometry.position (g : Geometry) (i : Nat) : Nat := (nth g.entries i (.blank 0)).position

/-- d_0 is not 0, or some d_{k+1} ≤ d_k. -/
def positionDisorder (g : Geometry) : Bool :=
  decide (g.position 0 ≠ 0) ||
  (List.range (g.head.n - 1)).any fun k => decide (g.position (k + 1) ≤ g.position k)

/-- Some link is shorter than 50 m. -/
def linkShort (g : Geometry) : Bool :=
  (List.range (g.head.n - 1)).any fun k => decide (g.position (k + 1) < g.position k + 50)

/-- The thresholds are in order. -/
def thresholdsOrdered (h : GeometryHead) : Bool :=
  decide (h.u1 < h.u2) && decide (h.u2 < h.u3) && decide (h.d1 < h.d2) && decide (h.d2 < h.d3) &&
  decide (h.d1 < h.u1) && decide (h.d2 < h.u2) && decide (h.d3 < h.u3)

/-- The first fault of a geometry record, or none (R7). -/
def geometryFault (g : Geometry) : GeometryFault :=
  if addressClash g then .addressClash
  else if positionDisorder g then .positionOrder
  else if linkShort g then .linkShort
  else if !thresholdsOrdered g.head then .thresholdOrder
  else .none

/-- The stamp after a passing check: 65535 is followed by 1 (R7). -/
def nextStamp (stamp : Nat) : Nat := if stamp = 65535 then 1 else stamp + 1

/-- The geometry record after CHECK_GEOMETRY (R7). -/
def checkedGeometry (g : Geometry) : Geometry :=
  match geometryFault g with
  | .none =>
    if g.state = .valid then g
    else { g with state := .valid, fault := .none, stamp := nextStamp g.stamp }
  | fault => { g with state := .unchecked, fault }

/-! ### CHECK_PLAN (R15) -/

/-- Junction j is windowed under the plan and its window and S_min do not fit in C. -/
def sideTimeFails (p : PlanRecord) (j : Nat) : Bool :=
  decide (classOf (p.shareOf j) = .windowed) &&
  decide (p.head.c < nominalWindow p.head.c p.head.gMin (p.shareOf j) + p.head.sMin)

/-- The junctions of 0..n-1 with an effective share above 0. -/
def bandJunctions (p : PlanRecord) (n : Nat) : List Nat :=
  (List.range n).filter fun j => decide (0 < p.shareOf j)

/-- The first fault of a plan against a geometry record, or none (R15). -/
def planFault (g : Geometry) (p : PlanRecord) : PlanFault :=
  if g.state ≠ .valid then .noGeometry
  else if p.head.c ≤ p.head.p then .offsetRange
  else if g.head.n ≤ p.head.anchor then .anchorRange
  else if ¬(p.head.biasMin ≤ p.head.biasNominal ∧ p.head.biasNominal ≤ p.head.biasMax) then
    .biasOrder
  else if p.head.c < p.head.gMin + p.head.sMin then .greenSide
  else
    match (List.range g.head.n).find? (sideTimeFails p) with
    | some j => .sideTime j
    | none => if (bandJunctions p g.head.n).length < 2 then .noBand else .none

/-- The plan record after CHECK_PLAN (R15). -/
def checkedPlan (g : Geometry) (p : PlanRecord) : PlanRecord :=
  match planFault g p with
  | .none => { p with state := .checked, stamp := g.stamp, fault := .none }
  | fault => { p with state := .unchecked, fault }

/-! ### Replacing records in the working copy -/

/-- The index of plan p in the store. -/
def planIndex (p : Nat) (h : isPlan p = true) : Fin 24 :=
  ⟨p - 1, by simp [isPlan] at h; omega⟩

/-- The working copy with plan p replaced; a number that is no plan's changes nothing. -/
def Store.setPlan (st : Store) (p : Nat) (r : PlanRecord) : Store :=
  if h : isPlan p = true then
    { st with plans := st.plans.set (planIndex p h).val r (planIndex p h).isLt }
  else st

/-- The twelve entries with those of a group replaced by four new ones. -/
def replaceGroup {α : Type} (old : Vector α 12) (g : Nat) (new : Vector α 4) : Vector α 12 :=
  Vector.ofFn fun j =>
    if j.val / 4 = g then new[j.val % 4]'(Nat.mod_lt _ (by decide)) else old[j]

/-- The twelve entries with those of a group set to a value of their index. -/
def blankGroup {α : Type} (old : Vector α 12) (g : Nat) (blank : Vector α 12) : Vector α 12 :=
  Vector.ofFn fun j => if j.val / 4 = g then blank[j] else old[j]

/-- The geometry record after WRITE_GEOMETRY_HEAD (R4). -/
def Geometry.withHead (g : Geometry) (h : GeometryHead) : Geometry :=
  { g with state := .unchecked, head := h }

/-- The geometry record after WRITE_GEOMETRY_GROUP (R5). -/
def Geometry.withGroup (g : Geometry) (w : GeometryGroupWrite) : Geometry :=
  { g with state := .unchecked, entries := replaceGroup g.entries w.group w.entries }

/-- A plan record after WRITE_PLAN_HEAD (R10). -/
def PlanRecord.withHead (p : PlanRecord) (h : PlanHead) : PlanRecord :=
  { p with state := .unchecked, head := h }

/-- A plan record after WRITE_PLAN_GROUP (R11). -/
def PlanRecord.withGroup (p : PlanRecord) (w : PlanGroupWrite) : PlanRecord :=
  { p with state := .unchecked, entries := replaceGroup p.entries w.group w.entries }

/-! ### Retention (R20) -/

/-- Retention goes to WRITING with a record (R20). -/
def startRetention (r : RetentionRecord) (s : State) : State := s.setRetention (some r)

/-- The retained geometry after the write of its head record: every head field, the state, the last
check fault and the stamp (section 1.8). -/
def keepGeometryHead (work kept : Geometry) : Geometry :=
  { kept with state := work.state, fault := work.fault, stamp := work.stamp, head := work.head }

/-- The retained geometry after the write of a group record: the four entries and the state, as the table
of section 1.8 gives them. The last check fault is in no cell of that record: where the write mends a torn
group, the working copy's TORN is not retained, and the copies differ in it, against R22 (DESIGN CHOICE,
log 36). -/
def keepGeometryGroup (work kept : Geometry) (g : Fin 3) : Geometry :=
  { kept with state := work.state, entries := blankGroup kept.entries g.val work.entries }

/-- The stored state of a plan: state, checked stamp and last check fault (R9). -/
def keepPlanState (work kept : PlanRecord) : PlanRecord :=
  { kept with state := work.state, stamp := work.stamp, fault := work.fault }

/-- A retained plan after the write of its head record, which clears the erase mark. -/
def RetainedPlan.keepHead (work : PlanRecord) (k : RetainedPlan) : RetainedPlan :=
  { k with record := { keepPlanState work k.record with head := work.head }, eraseMark := false,
           headTorn := false }

/-- A retained plan after the write of a group record, which clears the erase mark. -/
def RetainedPlan.keepGroup (work : PlanRecord) (g : Fin 3) (k : RetainedPlan) : RetainedPlan :=
  { k with
    record := { keepPlanState work k.record with
      entries := blankGroup k.record.entries g.val work.entries }
    eraseMark := false
    groupTorn := k.groupTorn.set g.val false g.isLt }

/-- A retained plan after the write of its state record by a check. -/
def RetainedPlan.keepState (work : PlanRecord) (k : RetainedPlan) : RetainedPlan :=
  { k with record := keepPlanState work k.record, eraseMark := false, stateTorn := none }

/-- A retained plan after the write of its state record by an erase: the mark, the erase values of the
head and all three groups, and every record of the plan mended (R13, R23). -/
def RetainedPlan.keepErase (work : PlanRecord) (_k : RetainedPlan) : RetainedPlan :=
  { record := work, eraseMark := true, headTorn := false, groupTorn := Vector.replicate 3 false,
    stateTorn := none }

/-- Change the retained copy of one plan. -/
def Retained.setPlan (r : Retained) (p : Fin 24) (k : RetainedPlan) : Retained :=
  { r with plans := r.plans.set p.val k p.isLt }

/-- The retained memory when the write of a record completes: the cells of that record take the working
copy's values, and the record is no longer torn (R20, R23). -/
def keepRecord (st : Store) (r : Retained) : RetentionRecord → Retained
  | .geometryHead =>
    { r with geometry := keepGeometryHead st.geometry r.geometry, headTorn := false }
  | .geometryGroup g =>
    { r with geometry := keepGeometryGroup st.geometry r.geometry g,
             groupTorn := r.groupTorn.set g.val false g.isLt }
  | .planHead p => r.setPlan p (r.plans[p].keepHead st.plans[p])
  | .planGroup p g => r.setPlan p (r.plans[p].keepGroup st.plans[p] g)
  | .planState p false => r.setPlan p (r.plans[p].keepState st.plans[p])
  | .planState p true => r.setPlan p (r.plans[p].keepErase st.plans[p])
  | .selectionEntry i =>
    { r with selection := r.selection.set i.val st.selection[i] i.isLt,
             selectionTorn := r.selectionTorn.set i.val false i.isLt }

/-- Twelve erased plan entries (R9). -/
def erasedEntries : Vector PlanEntry 12 := Vector.replicate 12 .erased

/-- A retained plan whose cells of the head and all three groups hold erase values. Its state cell, its
erase mark and what stands torn stay. -/
def RetainedPlan.eraseFields (k : RetainedPlan) : RetainedPlan :=
  { k with record := { k.record with head := .erased, entries := erasedEntries } }

/-- A retained plan whose erase write is torn. The record being written is the state record, and it alone
is torn (R23). Its cells of the head and all three groups load erase values however far the write had
gone, and the retained copy holds them: a completed check mends the state record, and what the plan then
loads agrees with the working copy (R22; log 15). -/
def RetainedPlan.tearErase (k : RetainedPlan) : RetainedPlan :=
  { k.eraseFields with stateTorn := some .erase }

/-- The retained memory when a reset interrupts the write of a record: the record is torn (R23). -/
def tearRecord (r : Retained) : RetentionRecord → Retained
  | .geometryHead => { r with headTorn := true }
  | .geometryGroup g => { r with groupTorn := r.groupTorn.set g.val true g.isLt }
  | .planHead p => r.setPlan p { r.plans[p] with headTorn := true }
  | .planGroup p g =>
    r.setPlan p { r.plans[p] with groupTorn := r.plans[p].groupTorn.set g.val true g.isLt }
  | .planState p false => r.setPlan p { r.plans[p] with stateTorn := some .check }
  | .planState p true => r.setPlan p r.plans[p].tearErase
  | .selectionEntry i => { r with selectionTorn := r.selectionTorn.set i.val true i.isLt }

/-- A retained plan at a reset. While its state record stands torn by an erase, the head and all three
groups load erase values at every reset (R23), also where they have been written since the last one. The
retained copy takes those values, so that it goes on agreeing with the working copy (R22; log 15);
nothing more is torn. -/
def RetainedPlan.atReset (k : RetainedPlan) : RetainedPlan :=
  if k.stateTorn = some .erase then k.eraseFields else k

/-- The retained memory that a reset leaves: a write in progress is torn (R23). -/
def tearWrite (r : Retained) (writing : Option RetentionRecord) : Retained :=
  let torn := match writing with
    | none => r
    | some record => tearRecord r record
  { torn with plans := Vector.ofFn fun p => torn.plans[p].atReset }

/-! ### Loading (R23, R24) -/

/-- Some group record is torn. -/
def anyTorn (torn : Vector Bool 3) : Bool := torn[0] || torn[1] || torn[2]

/-- The entries loaded: those of torn groups take their blank values (R23). -/
def loadEntries {α : Type} (kept : Vector α 12) (torn : Vector Bool 3) (blank : Vector α 12) :
    Vector α 12 :=
  Vector.ofFn fun j => if nth torn (j.val / 4) false then blank[j] else kept[j]

/-- The geometry record as loaded (R23, R24): the stamp is always the retained one. -/
def loadGeometry (r : Retained) : Geometry :=
  let torn := r.headTorn || anyTorn r.groupTorn
  { state := if torn then .unchecked else r.geometry.state
    fault := if torn then .torn
      else r.geometry.fault
    stamp := r.geometry.stamp
    head := if r.headTorn then .blank else r.geometry.head
    entries := loadEntries r.geometry.entries r.groupTorn blankEntries }

/-- A torn plan: UNCHECKED with last check fault TORN and checked stamp 0 (R23). -/
def tornPlan (head : PlanHead) (entries : Vector PlanEntry 12) : PlanRecord :=
  { state := .unchecked, stamp := 0, fault := .torn, head, entries }

/-- A plan as loaded (R23, R24). A torn record prevails over an erase mark that stands beside it (log
15). -/
def loadPlan (k : RetainedPlan) : PlanRecord :=
  let head := if k.headTorn then PlanHead.erased else k.record.head
  let entries := loadEntries k.record.entries k.groupTorn erasedEntries
  match k.stateTorn with
  | some .erase => tornPlan .erased erasedEntries
  | some .check => tornPlan head entries
  | none =>
    if k.headTorn || anyTorn k.groupTorn then tornPlan head entries
    else if k.eraseMark then .erased
    else k.record

/-- The working copy loaded from retained memory (R24). -/
def loadStore (r : Retained) : Store :=
  { geometry := loadGeometry r
    plans := Vector.ofFn fun p => loadPlan r.plans[p]
    selection := Vector.ofFn fun i => if r.selectionTorn[i] then .blank else r.selection[i] }

end Sys2Proof.Machine
end

