-- ==== Sys2Proof/Machine/Band.lean ====
section
/-! DEFINITION. The Band Engine (chapter 2): the snapshot, the arithmetic of a computation, the arrival
of recompute causes and the change of the pending plan. -/

namespace Sys2Proof.Machine

open Sys2Proof

/-! ### The snapshot (R31, R32) -/

/-- The inputs of a computation for plan p, copied from the state (R31). -/
def takeSnapshot (s : State) (p : Nat) (role : PlanRole) : Snapshot :=
  let r := s.store.plan p
  { plan := p, role, c := r.head.c, p := r.head.p, anchor := r.head.anchor, vIn := r.head.vIn,
    vOut := r.head.vOut, gMin := r.head.gMin, sMin := r.head.sMin, gatePct := r.head.gatePct,
    shares := r.shares, trims := Vector.ofFn fun j => r.entries[j].trim, follows := r.follows,
    n := junctionCount s,
    positions := Vector.ofFn fun j => s.store.geometry.entries[j].position,
    bias := match role with
      | .pending => installedBias s p
      | .entry => s.selector.liveBias
      | .active => s.selector.liveBias
    levelIn := s.demand.levelIn, levelOut := s.demand.levelOut,
    spillIn := Vector.ofFn fun k => s.gate.inbound[k].isSet,
    spillOut := Vector.ofFn fun k => s.gate.outbound[k].isSet,
    following := Vector.ofFn fun j => s.roster.junctions[j].following,
    roster := Vector.ofFn fun j => s.roster.junctions[j].state }

/-! ### Windows for the band (R33, R34) -/

/-- The effective share of junction i in the snapshot (R14). -/
def Snapshot.share (x : Snapshot) (i : Nat) : Nat := effectiveShare x.shares x.follows x.anchor i

/-- The class of junction i (R33). -/
def Snapshot.cls (x : Snapshot) (i : Nat) : WindowClass := classOf (x.share i)

/-- The nominal window of junction i (R26): 0 when UNCOORDINATED, C when FULL. -/
def Snapshot.g (x : Snapshot) (i : Nat) : Nat :=
  match x.cls i with
  | .uncoordinated => 0
  | .windowed => nominalWindow x.c x.gMin (x.share i)
  | .full => x.c

/-- Junction i is gated in the snapshot (R33). -/
def Snapshot.gated (x : Snapshot) (i : Nat) : Bool :=
  (decide (i + 1 < x.n) && nth x.spillIn i false) ||
  (decide (0 < i) && nth x.spillOut (i - 1) false)

/-- The band window of junction i (R33); C is recorded for a full junction that is not gated. -/
def Snapshot.gEff (x : Snapshot) (i : Nat) : Nat :=
  if x.gated i then gatedWindow (x.cls i) x.c x.gMin x.sMin x.gatePct (x.g i) else x.g i

/-- Junction i is constraining (R34). -/
def Snapshot.constraining (x : Snapshot) (i : Nat) : Bool :=
  (decide (x.cls i = .windowed) || (decide (x.cls i = .full) && x.gated i)) &&
  nth x.following i false && decide (nth x.roster i .lost ≠ .lost)

/-! ### Link speeds and times (R35, R36) -/

/-- The factor of a congestion level (R35). -/
def levelFactor (level : Nat) : Nat :=
  if level = 0 then 100 else if level = 1 then 85 else if level = 2 then 70 else 55

/-- The link speed in km/h: v_plan × f / 100 rounded half up, at least 15 (R35). -/
def linkSpeed (vPlan level : Nat) : Nat := max 15 ((vPlan * levelFactor level + 50) / 100)

/-- The link time in ds: 3.6 × L / v rounded half up (R36). -/
def linkTime (length v : Nat) : Nat := (36 * length + v / 2) / v

/-- The length of link k (R36). -/
def Snapshot.linkLength (x : Snapshot) (k : Nat) : Nat :=
  nth x.positions (k + 1) 0 - nth x.positions k 0

/-- The inbound time of link k. -/
def Snapshot.timeIn (x : Snapshot) (k : Nat) : Nat :=
  linkTime (x.linkLength k) (linkSpeed x.vIn (nth x.levelIn k 0))

/-- The outbound time of link k. -/
def Snapshot.timeOut (x : Snapshot) (k : Nat) : Nat :=
  linkTime (x.linkLength k) (linkSpeed x.vOut (nth x.levelOut k 0))

/-- T_in of junction i: the inbound times of links 0..i-1 (R36). -/
def Snapshot.cumIn (x : Snapshot) (i : Nat) : Nat := ((List.range i).map x.timeIn).sum

/-- T_out of junction i: the outbound times of links i..N-2 (R36). -/
def Snapshot.cumOut (x : Snapshot) (i : Nat) : Nat :=
  ((List.range (x.n - 1 - i)).map fun k => x.timeOut (i + k)).sum

/-! ### Ideal offsets, blend and target (R37 to R40) -/

/-- a mod C, in 0..C-1 for negative a too (section Modular Arithmetic). -/
def modC (a : Int) (c : Nat) : Nat := (a % (c : Int)).toNat

/-- The inbound travel time from the anchor, signed. -/
def Snapshot.fromAnchorIn (x : Snapshot) (i : Nat) : Int :=
  (x.cumIn i : Int) - (x.cumIn x.anchor : Int)

/-- The outbound travel time from the anchor, signed. -/
def Snapshot.fromAnchorOut (x : Snapshot) (i : Nat) : Int :=
  (x.cumOut i : Int) - (x.cumOut x.anchor : Int)

/-- The inbound ideal offset (R37). -/
def Snapshot.idealIn (x : Snapshot) (i : Nat) : Nat := modC (x.fromAnchorIn i) x.c

/-- The outbound ideal offset (R37). -/
def Snapshot.idealOut (x : Snapshot) (i : Nat) : Nat := modC (x.fromAnchorOut i) x.c

/-- The circular difference Δ between two positions of the cycle (R38). -/
def circularDifference (c idealIn idealOut : Nat) : Int :=
  let r := modC ((idealOut : Int) - (idealIn : Int)) c
  if c < 2 * r then (r : Int) - (c : Int) else (r : Int)

/-- The part w/100 of Δ, rounded to the nearest integer with ties away from zero (R39). -/
def blend (delta : Int) (w : Nat) : Int :=
  if 0 ≤ delta then (((delta.toNat * w + 50) / 100 : Nat) : Int)
  else -((((-delta).toNat * w + 50) / 100 : Nat) : Int)

/-- The blend amount q of junction i (R39). -/
def Snapshot.blendAmount (x : Snapshot) (i : Nat) : Int :=
  blend (circularDifference x.c (x.idealIn i) (x.idealOut i)) (100 - x.bias)

/-- The target offset of junction i (R40). -/
def Snapshot.target (x : Snapshot) (i : Nat) : Nat :=
  modC ((x.p : Int) + (x.idealIn i : Int) + x.blendAmount i + nth x.trims i 0) x.c

/-! ### Bandwidth (R41, R42) -/

/-- The inbound reference start of junction i (R41). -/
def Snapshot.startIn (x : Snapshot) (i : Nat) : Nat :=
  modC ((x.target i : Int) - x.fromAnchorIn i) x.c

/-- The outbound reference start of junction i (R41). -/
def Snapshot.startOut (x : Snapshot) (i : Nat) : Nat :=
  modC ((x.target i : Int) - x.fromAnchorOut i) x.c

/-- The time left in a window of length gEff that opened at `start`, at reference time t (R42). -/
def windowLeft (c gEff start t : Nat) : Nat := gEff - modC ((t : Int) - (start : Int)) c

/-- The least of a list, or C for an empty one. -/
def leastOf (c : Nat) : List Nat → Nat
  | [] => c
  | [v] => v
  | v :: rest => min v (leastOf c rest)

/-- The greatest of a list, or 0 for an empty one. -/
def greatestOf : List Nat → Nat
  | [] => 0
  | v :: rest => max v (greatestOf rest)

/-- The bandwidth over windows given as (start, g_eff), one for each constraining junction (R42). -/
def bandwidth (c : Nat) (windows : List (Nat × Nat)) : Nat :=
  if windows.isEmpty then c
  else greatestOf (windows.map fun cand =>
    leastOf c (windows.map fun w => windowLeft c w.2 w.1 cand.1))

/-- The constraining junctions of the snapshot in index order. -/
def Snapshot.constrainers (x : Snapshot) : List Nat := (List.range x.n).filter x.constraining

/-- The inbound bandwidth (R42). -/
def Snapshot.bandIn (x : Snapshot) : Nat :=
  bandwidth x.c (x.constrainers.map fun i => (x.startIn i, x.gEff i))

/-- The outbound bandwidth (R42). -/
def Snapshot.bandOut (x : Snapshot) : Nat :=
  bandwidth x.c (x.constrainers.map fun i => (x.startOut i, x.gEff i))

/-- The target set a snapshot yields, under the generation it is published with (R26). -/
def computeSet (x : Snapshot) (generation : Nat) : TargetSet :=
  { plan := x.plan, generation, c := x.c, n := x.n, bias := x.bias, bandIn := x.bandIn,
    bandOut := x.bandOut,
    entries := (List.range x.n).map fun i =>
      { target := x.target i, cls := x.cls i, g := x.g i, gEff := x.gEff i,
        constraining := x.constraining i } }

/-! ### Causes (R30, R44 to R47) -/

/-- Start a computation for the computing plan; the again flag and the discard mark are clear (R30,
R44). Without a computing plan the engine is IDLE. -/
def startComputation (s : State) : State :=
  match computingRole s with
  | none => s.setEngine { s.engine with computing := none, again := false, void := false }
  | some (p, role) =>
    s.setEngine
      { s.engine with computing := some (takeSnapshot s p role), again := false, void := false }

/-- The arrival of a recompute cause (R30). -/
def arriveCause (s : State) : State :=
  if s.timebase.mode = .hold then s
  else if s.engine.computing.isSome then s.setEngine { s.engine with again := true }
  else startComputation s

/-- The end of an event: the causes it raised arrive as one (R28). -/
def settle (s : State) : State :=
  if s.causeRaised then arriveCause (s.setCauseRaised false) else s

/-- Set, replace or clear the pending plan (R52): the pending target set is emptied (R47), a computation
in flight for another plan is marked for discard (R45), and in RUN a cause is raised. -/
def setPendingPlan (p : Nat) (s : State) : State :=
  let before := computingPlan s
  let s1 := s.setTimebase { s.timebase with pendingPlan := p }
  let changed := s.engine.computing.isSome && decide (computingPlan s1 ≠ before)
  let s2 := s1.setEngine
    { s1.engine with pendingSet := none, void := s1.engine.void || changed }
  raiseCauseIf (decide (s.timebase.mode = .run)) s2

/-- What ENTER_HOLD and RESET_ENGINE do to the engine (R46). -/
def engineToHold (s : State) : State :=
  s.setEngine { s.engine with
    void := s.engine.void || s.engine.computing.isSome, again := false, pendingSet := none }

end Sys2Proof.Machine
end

