-- ==== Sys2Proof/Machine/Window.lean ====
section
/-! DEFINITION. The Window Generator's window lengths (R64) and the Offset Seeker (chapter 4). -/

namespace Sys2Proof.Machine

open Sys2Proof

/-! ### The window fixed at a local zero or at the entry (R64) -/

/-- A window length and the full flag. -/
structure FixedWindow where
  gEff : Nat
  full : Bool
  deriving DecidableEq, Repr

/-- The window length and the full flag of junction j under a plan, gated or not (R64). -/
def fixWindow (p : PlanRecord) (gated : Bool) (j : Nat) : FixedWindow :=
  let h := p.head
  let g := nominalWindow h.c h.gMin (p.shareOf j)
  match classOf (p.shareOf j) with
  | .uncoordinated => { gEff := 0, full := false }
  | .windowed =>
    { gEff := if gated then gatedWindow .windowed h.c h.gMin h.sMin h.gatePct g else g,
      full := false }
  | .full =>
    if gated then { gEff := gatedWindow .full h.c h.gMin h.sMin h.gatePct h.c, full := false }
    else { gEff := h.c, full := true }

/-! ### The Offset Seeker (R75 to R79) -/

/-- The error: how far forward through the cycle the target lies from the offset now (R75). -/
def seekError (c target offsetNow : Nat) : Nat := modC ((target : Int) - (offsetNow : Int)) c

/-- The greatest lengthening in one cycle (R76). -/
def maxLen (h : PlanHead) : Nat := h.c * h.dwellPct / 100

/-- The greatest shortening in one cycle under a window (R77). -/
def maxShort (h : PlanHead) (w : FixedWindow) : Nat :=
  if w.full then 0
  else if 0 < w.gEff then min (h.c * h.shortPct / 100) (h.c - w.gEff - h.sMin)
  else h.c * h.shortPct / 100

/-- The cycles a distance takes at a greatest rate: the ceiling, and none when the rate is 0 and the
count is infinite (R78). -/
def cyclesNeeded (distance rate : Nat) : Option Nat :=
  if rate = 0 then none else some ((distance + rate - 1) / rate)

/-- The first count is below the second, where none is infinite (R79). -/
def fewer : Option Nat → Option Nat → Bool
  | some a, some b => decide (a < b)
  | some _, none => true
  | none, _ => false

/-- What the seeker writes: the seek state, δ and Lcur (R74). -/
structure SeekResult where
  seek  : SeekState
  delta : Int
  lcur  : Nat
  deriving DecidableEq, Repr

/-- The seeker's choice for an error under a plan and a window (R79). Lcur = C + δ in every row. -/
def seekChoice (h : PlanHead) (w : FixedWindow) (e : Nat) : SeekResult :=
  let nLen := cyclesNeeded e (maxLen h)
  let nShort := cyclesNeeded (h.c - e) (maxShort h w)
  if e = 0 then { seek := .inStep, delta := 0, lcur := h.c }
  else if nLen = none ∧ nShort = none then { seek := .lengthen, delta := 0, lcur := h.c }
  else if fewer nShort nLen then
    let d := min (h.c - e) (maxShort h w)
    { seek := .shorten, delta := -(d : Int), lcur := h.c - d }
  else
    let d := min e (maxLen h)
    { seek := .lengthen, delta := (d : Int), lcur := h.c + d }

/-! ### The record at the entry and at a local zero -/

/-- The target offset of junction j in the active target set. -/
def activeTarget (s : State) (j : Junction) : Nat :=
  match s.engine.active with
  | none => 0
  | some set => ((set.entries[j.val]?).map TargetEntry.target).getD 0

/-- The record junction j is placed with at the entry into RUN (R55). -/
def placedCycle (s : State) (j : Junction) : LocalCycle :=
  let p := s.store.plan s.timebase.active
  let target := activeTarget s j
  let gated := gatedNow s j
  let w := fixWindow p gated j.val
  let lc := modC (0 - (target : Int)) p.head.c
  let windowEnd := if w.full then p.head.c else w.gEff
  { plan := s.timebase.active, lc, lcur := p.head.c, windowEnd,
    windowOpen := w.full || (decide (0 < w.gEff) && decide (lc < windowEnd)),
    gEff := w.gEff, full := w.full, gate := gated, offsetNow := target, targetUsed := target,
    seek := .inStep, delta := 0, lockout := 0, actionTaken := false, extension := none }

/-- The record of junction j after stages 1 to 5 of a local zero (R63 to R65). -/
def zeroedCycle (s : State) (j : Junction) : LocalCycle :=
  let r := s.cycles[j]
  let p := s.store.plan s.timebase.active
  let gated := gatedNow s j
  let w := fixWindow p gated j.val
  let target := activeTarget s j
  let k := seekChoice p.head w (seekError p.head.c target s.timebase.cc)
  { plan := s.timebase.active, lc := r.lc, lcur := k.lcur,
    windowEnd := if w.full then k.lcur else w.gEff,
    windowOpen := decide (0 < w.gEff) || w.full,
    gEff := w.gEff, full := w.full, gate := gated, offsetNow := s.timebase.cc, targetUsed := target,
    seek := k.seek, delta := k.delta, lockout := r.lockout - 1, actionTaken := false,
    extension := r.extension }

end Sys2Proof.Machine
end

