-- ==== Sys2Proof/Machine/PriorityUnit.lean ====
section
/-! DEFINITION. The Priority Unit (chapter 7): outcomes, grants, evaluations, the cut and drops. -/

namespace Sys2Proof.Machine

open Sys2Proof

/-- The entry has the key (junction, tag) (R124). -/
def hasKey (j : Junction) (tag : Nat) (e : PriorityEntry) : Bool :=
  decide (e.junction = j) && decide (e.tag = tag)

/-- The entry with a key, if it is listed. -/
def findEntry (s : State) (j : Junction) (tag : Nat) : Option PriorityEntry :=
  s.priority.list.find? (hasKey j tag)

/-- Place the OUTCOME frame of an entry whose source is a station, unless the REPLY queue is full (R131,
R154). -/
def sendOutcome (e : PriorityEntry) (o : CallOutcome) (s : State) : State :=
  match e.source with
  | .centre => s
  | .station address =>
    if lineReplyCount s.line < Config.lineReplyPlaces then
      queueLineReply (.outcome
        { dest := address, junction := e.junction, direction := e.direction, tag := e.tag,
          outcome := o }) s
    else s

/-- Is an OUTCOME frame placed for the entry? (R131) -/
def outcomePlaced (e : PriorityEntry) (s : State) : Bool :=
  match e.source with
  | .centre => false
  | .station _ => decide (lineReplyCount s.line < Config.lineReplyPlaces)

/-- An entry leaves the list with an outcome: the OUTCOME frame, then the notice (R131). -/
def removeEntry (e : PriorityEntry) (o : CallOutcome) (s : State) : State :=
  let kept := s.priority.list.filter fun x => !hasKey e.junction e.tag x
  let s1 := s.setPriority { s.priority with list := kept }
  queueNotice (.priorityOutcome e.junction e.direction e.tag o e.source (outcomePlaced e s))
    (sendOutcome e o s1)

/-- Entries leave with one outcome in list order (R136). -/
def removeAll (o : CallOutcome) : List PriorityEntry → State → State
  | [], s => s
  | e :: rest, s => removeAll o rest (removeEntry e o s)

/-- Every listed entry that the condition picks is dropped, in list order (R136). -/
def dropEntries (picks : PriorityEntry → Bool) (reason : DropReason) (s : State) : State :=
  removeAll (.dropped reason) (s.priority.list.filter picks) s

/-! ### The decision for one entry (R128) -/

/-- What R128 decides. -/
inductive Decision where
  | serve
  | extend (x : Nat)
  | early (a : Nat)
  | wait
  deriving DecidableEq, Repr

/-- The amount a of an early green: the least of E_max, the cycle left over after the arrival, and what
keeps Lcur above LC and S_min of side time (R128). It is 0 where one of them is not positive. -/
def earlyAmount (h : PlanHead) (r : LocalCycle) (arrival : Nat) : Nat :=
  min h.eMax (min (r.lcur - r.lc - arrival) (r.lcur - max (r.lc + 1) (r.windowEnd + h.sMin)))

/-- The decision for a vehicle `arrival` ds away, from the record and the head of the record's plan
(R128). -/
def decideEntry (h : PlanHead) (r : LocalCycle) (arrival : Nat) : Decision :=
  if r.windowOpen then
    if r.full ∨ arrival ≤ r.windowEnd - r.lc then .serve
    else if 0 < h.xMax ∧ arrival ≤ r.windowEnd - r.lc + h.xMax then
      .extend (min h.xMax (arrival - (r.windowEnd - r.lc) + Config.extensionClearance))
    else .wait
  else if 0 < r.gEff ∧ arrival < r.lcur - r.lc ∧ 1 ≤ earlyAmount h r arrival then
    .early (earlyAmount h r arrival)
  else .wait

/-- The record after a grant of EXTEND x (R129). -/
def extendedCycle (h : PlanHead) (tag x : Nat) (r : LocalCycle) : LocalCycle :=
  { r with windowEnd := r.windowEnd + x, lcur := r.lcur + x,
           extension := some { tag, amount := x }, actionTaken := true, lockout := h.lockout }

/-- The record after a grant of EARLY a (R130). -/
def shortenedCycle (h : PlanHead) (a : Nat) (r : LocalCycle) : LocalCycle :=
  { r with lcur := r.lcur - a, actionTaken := true, lockout := h.lockout }

/-! ### Evaluation (R127) -/

/-- The conditions an evaluation of junction j tests first (R119, R127). A local zero of j that is due
and not taken withholds every grant. -/
def mayEvaluate (s : State) (j : Junction) : Bool :=
  let r := s.cycles[j]
  decide (s.timebase.mode = .run) && decide (r.seek = .inStep) && decide (r.lockout = 0) &&
  !gatedNow s j && !r.gate && s.roster.junctions[j].following && !r.actionTaken &&
  !s.due.localZero[j]

/-- The entries of junction j taken in list order: a NONE grant goes on to the next, an EXTEND or EARLY
grant ends the evaluation, and one that is not serviceable waits (R127). -/
def serveEntries (j : Junction) : List PriorityEntry → State → State
  | [], s => s
  | e :: rest, s =>
    let r := s.cycles[j]
    let h := (s.store.plan r.plan).head
    match decideEntry h r (timeAhead s.priority.clock e.due) with
    | .serve => serveEntries j rest (removeEntry e (.granted .none 0) s)
    | .extend x =>
      removeEntry e (.granted .extend x)
        (queueSteer j .extend x (setCycle s j (extendedCycle h e.tag x r)))
    | .early a =>
      removeEntry e (.granted .early a)
        (queueSteer j .early a (setCycle s j (shortenedCycle h a r)))
    | .wait => serveEntries j rest s

/-- An evaluation for junction j (R127). -/
def evaluate (j : Junction) (s : State) : State :=
  if mayEvaluate s j then
    serveEntries j (s.priority.list.filter fun e => decide (e.junction = j)) s
  else s

/-- The close of junction j's window: an extension record ends and an evaluation is triggered (R68). -/
def closeWindow (j : Junction) (s : State) : State :=
  evaluate j (setCycle s j { s.cycles[j] with windowOpen := false, extension := none })

/-! ### The cut (R134) -/

/-- The decrease of Lcur that a cut makes. -/
def cutAmount (r : LocalCycle) (e : Extension) : Nat :=
  if r.lc < r.gEff then e.amount else r.windowEnd - r.lc

/-- The record after a cut, before the window closes by it (R134). -/
def cutCycle (r : LocalCycle) (e : Extension) : LocalCycle :=
  { r with windowEnd := if r.lc < r.gEff then r.gEff else r.lc,
           lcur := r.lcur - cutAmount r e, extension := none }

/-- A cut of junction j's extension: the record, the steer, the notice, and at or beyond g_eff the
window's close with its evaluation (R134). -/
def cutExtension (j : Junction) (e : Extension) (s : State) : State :=
  let r := s.cycles[j]
  let closes := decide (r.gEff ≤ r.lc)
  let r' := cutCycle r e
  let s1 := setCycle s j { r' with windowOpen := r.windowOpen && !closes }
  let s2 := queueNotice (.priorityCut e.tag (cutAmount r e)) (queueSteer j .cut (cutAmount r e) s1)
  if closes then closeWindow j s2 else s2

end Sys2Proof.Machine
end

