-- ==== Sys2Proof/Machine/Corridor.lean ====
section
/-! DEFINITION. The blocks that follow the junctions' reports: the Demand Monitor (R93 to R97), the
Spillback Gate (R113 to R121), the Junction Roster (R139 to R148), and the effects of a change of N. -/

namespace Sys2Proof.Machine

open Sys2Proof

/-! ### The Demand Monitor -/

/-- The smoothed value after a report (R93): a seed after SILENT or LOST, otherwise three parts to one
rounded half up. -/
def smooth (prior : RosterState) (held new : Nat) : Nat :=
  match prior with
  | .silent => new
  | .lost => new
  | _ => (3 * held + new + 2) / 4

/-- The rise threshold U_level (R3). -/
def riseThreshold (h : GeometryHead) (level : Nat) : Nat :=
  if level = 1 then h.u1 else if level = 2 then h.u2 else h.u3

/-- The fall threshold D_level (R3). -/
def fallThreshold (h : GeometryHead) (level : Nat) : Nat :=
  if level = 1 then h.d1 else if level = 2 then h.d2 else h.d3

/-- The level after one step under a smoothed value (R95). -/
def levelStep (h : GeometryHead) (level v : Nat) : Nat :=
  if level < 3 ∧ riseThreshold h (level + 1) ≤ v then level + 1
  else if 0 < level ∧ v < fallThreshold h level then level - 1
  else level

/-- Write the level of a link-direction; a change is a recompute cause (R95, R97). -/
def setLevel (d : Direction) (k : LinkIndex) (level : Nat) (s : State) : State :=
  match d with
  | .inbound =>
    raiseCauseIf (decide (s.demand.levelIn[k] ≠ level))
      (s.setDemand { s.demand with levelIn := s.demand.levelIn.set k.val level k.isLt })
  | .outbound =>
    raiseCauseIf (decide (s.demand.levelOut[k] ≠ level))
      (s.setDemand { s.demand with levelOut := s.demand.levelOut.set k.val level k.isLt })

/-- The level of a link-direction. -/
def levelOf (dm : Demand) (d : Direction) (k : LinkIndex) : Nat :=
  match d with
  | .inbound => dm.levelIn[k]
  | .outbound => dm.levelOut[k]

/-- One level step of a link-direction under a smoothed value, where it exists. -/
def stepLevel (d : Direction) (k : Option LinkIndex) (v : Nat) (s : State) : State :=
  match k with
  | none => s
  | some k => setLevel d k (levelStep s.store.geometry.head (levelOf s.demand d k) v) s

/-- The Demand Monitor takes an accepted report of junction j (R92 to R96). -/
def demandReport (j : Junction) (prior : RosterState) (b : ReportBody) (s : State) : State :=
  let old := s.demand.junctions[j]
  let sIn := smooth prior old.sIn (min 1000 b.inOccupancy)
  let sOut := smooth prior old.sOut (min 1000 b.outOccupancy)
  let s1 := setJunctionDemand s j
    { sIn, sOut, inVolume := b.inVolume, outVolume := b.outVolume }
  stepLevel .outbound (outboundAfter (junctionCount s) j) sOut
    (stepLevel .inbound (inboundBefore (junctionCount s) j) sIn s1)

/-- A link-direction's level set to 0 where it exists. -/
def clearLevel (d : Direction) (k : Option LinkIndex) (s : State) : State :=
  match k with
  | none => s
  | some k => setLevel d k 0 s

/-- Junction j enters LOST: the levels it measures become 0 (R97). -/
def demandLost (j : Junction) (s : State) : State :=
  clearLevel .outbound (outboundAfter (junctionCount s) j)
    (clearLevel .inbound (inboundBefore (junctionCount s) j) s)

/-! ### The Spillback Gate -/

/-- The spill state of a link-direction. -/
def spillOf (g : Gate) (d : Direction) (k : LinkIndex) : Spill :=
  match d with
  | .inbound => g.inbound[k]
  | .outbound => g.outbound[k]

/-- Write the spill state of a link-direction, without more. -/
def writeSpill (d : Direction) (k : LinkIndex) (v : Spill) (s : State) : State :=
  match d with
  | .inbound => s.setGate { s.gate with inbound := s.gate.inbound.set k.val v k.isLt }
  | .outbound => s.setGate { s.gate with outbound := s.gate.outbound.set k.val v k.isLt }

/-- Write the spill state of a link-direction; a change of state queues a SPILLBACK notice and raises a
recompute cause (R116). -/
def setSpill (d : Direction) (k : LinkIndex) (v : Spill) (j : Nat) (reason : SpillReason)
    (s : State) : State :=
  let s1 := writeSpill d k v s
  if (spillOf s.gate d k).isSet = v.isSet then s1
  else raiseCause (queueNotice (.spillback d k v.isSet j reason) s1)

/-- The step of a spill state under an exit flag and the hold-off H (R114, R115). -/
def spillStep (h : Nat) (v : Spill) (flag : Bool) : Spill :=
  match v.isSet, flag with
  | false, true => { isSet := true, run := 0 }
  | false, false => v
  | true, true => { isSet := true, run := 0 }
  | true, false => if h ≤ v.run + 1 then .clear else { isSet := true, run := v.run + 1 }

/-- One exit flag of junction j's report, where it names a link-direction (R113, R114). -/
def stepSpill (d : Direction) (k : Option LinkIndex) (flag : Bool) (j : Junction) (s : State) :
    State :=
  match k with
  | none => s
  | some k =>
    setSpill d k (spillStep s.store.geometry.head.holdOff (spillOf s.gate d k) flag) j.val
      (if flag then .flag else .clearRun) s

/-- The gate takes the exit flags of junction j's report (R113). -/
def gateReport (j : Junction) (b : ReportBody) (s : State) : State :=
  stepSpill .outbound (outboundExit (junctionCount s) j) b.outExit j
    (stepSpill .inbound (inboundExit (junctionCount s) j) b.inExit j s)

/-- A link-direction made CLEAR where it exists. -/
def clearSpill (d : Direction) (k : Option LinkIndex) (j : Nat) (reason : SpillReason) (s : State) :
    State :=
  match k with
  | none => s
  | some k => setSpill d k .clear j reason s

/-- Junction j enters LOST: the link-directions it reports become CLEAR (R120). -/
def gateLost (j : Junction) (s : State) : State :=
  clearSpill .outbound (outboundExit (junctionCount s) j) j.val .lost
    (clearSpill .inbound (inboundExit (junctionCount s) j) j.val .lost s)

/-! ### The Junction Roster -/

/-- The state a report moves a junction to (R143). -/
def afterReport : RosterState → RosterState
  | .silent => .linked
  | .degraded => .linked
  | .lost => .degraded
  | .linked => .linked
  | .absent => .absent

/-- A JUNCTION_STATE notice of junction j (R148). -/
def junctionNotice (j : Junction) (before after : RosterState) (misses : Nat) (s : State) : State :=
  queueNotice
    (.junctionState j s.store.geometry.entries[j].address before after misses) s

/-- An accepted report of junction j, steps 1 to 6 of R143 in their order. -/
def acceptReport (j : Junction) (b : ReportBody) (s : State) : State :=
  let r := s.roster.junctions[j]
  let after := afterReport r.state
  let s1 := setRosterEntry s j
    { state := after, misses := 0, reports := r.reports + 1, following := b.following }
  let s2 := raiseCauseIf (decide (r.following ≠ b.following) || decide (r.state = .lost)) s1
  let s3 := gateReport j b (demandReport j r.state b s2)
  let s4 := if b.following then s3
    else dropEntries (fun e => decide (e.junction = j)) .notFollowing s3
  if after = .linked ∧ r.state ≠ .linked then junctionNotice j r.state .linked 0 s4 else s4

/-- The miss count after a period end (R141, step 1). -/
def missesAfter (r : RosterEntry) : Nat := if r.reports = 0 then min 15 (r.misses + 1) else r.misses

/-- The roster state after a period end (R141, step 2). -/
def stateAfter (limit : Nat) (state : RosterState) (misses : Nat) : RosterState :=
  match state with
  | .silent => if limit ≤ misses then .lost else .silent
  | .linked => if limit ≤ misses then .lost else if 2 ≤ misses then .degraded else .linked
  | .degraded => if limit ≤ misses then .lost else .degraded
  | .lost => .lost
  | .absent => .absent

/-- What an entry of junction j into LOST does in the other blocks (R145). -/
def enterLost (j : Junction) (before : RosterState) (misses : Nat) (s : State) : State :=
  junctionNotice j before .lost misses
    (raiseCause
      (dropEntries (fun e => decide (e.junction = j)) .lost
        (gateLost j (demandLost j s))))

/-- The period end for junction j (R141). -/
def periodEndFor (j : Junction) (s : State) : State :=
  let r := s.roster.junctions[j]
  let misses := missesAfter r
  let after := stateAfter s.store.geometry.head.downgradeLimit r.state misses
  let s1 := setRosterEntry s j { r with state := after, misses, reports := 0 }
  if after = .lost ∧ r.state ≠ .lost then enterLost j r.state misses s1 else s1

/-- An action for each junction of a list in order. -/
def forJunctions (act : Junction → State → State) : List Junction → State → State
  | [], s => s
  | j :: rest, s => forJunctions act rest (act j s)

/-! ### A change of N (R97, R121, R139) -/

/-- The roster after a change of N (R139). -/
def rosterForN (old new : Nat) (r : Roster) : Roster :=
  { r with junctions := Vector.ofFn fun j =>
      if j.val < new then
        if j.val < old then r.junctions[j] else .initial .silent
      else .initial .absent }

/-- The Demand Monitor after a change of N: 0 for what the new N leaves out (R97). -/
def demandForN (new : Nat) (dm : Demand) : Demand :=
  { junctions := Vector.ofFn fun j => if j.val < new then dm.junctions[j] else .zero,
    levelIn := Vector.ofFn fun k => if k.val + 1 < new then dm.levelIn[k] else 0,
    levelOut := Vector.ofFn fun k => if k.val + 1 < new then dm.levelOut[k] else 0 }

/-- The gate after a change of N: the link-directions it leaves out become CLEAR, each reported with the
junction that reported it under the old N (R121). -/
def gateForN (new : Nat) : List LinkIndex → State → State
  | [], s => s
  | k :: rest, s =>
    if k.val + 1 < new then gateForN new rest s
    else gateForN new rest
      (setSpill .outbound k .clear (k.val + 1) .geometry
        (setSpill .inbound k .clear k.val .geometry s))

/-- The effects of a change of N from `old` on the roster, the Demand Monitor and the gate. -/
def changeN (old : Nat) (s : State) : State :=
  let new := junctionCount s
  if old = new then s
  else gateForN new allLinks
    ((s.setRoster (rosterForN old new s.roster)).setDemand (demandForN new s.demand))

end Sys2Proof.Machine
end

