-- ==== Sys2Proof/Machine/Timebase.lean ====
section
/-! DEFINITION. The Corridor Timebase and the Plan Selector: entering and leaving HOLD (R53 to R57), the
plan switch (R59), the publication of a target set (R43, R54), and the selector's steps (R101 to
R110). -/

namespace Sys2Proof.Machine

open Sys2Proof

/-! ### HOLD and ENTERING -/

/-- Every local cycle record in HOLD (R61). -/
def heldCycles : Vector LocalCycle 12 := Vector.replicate 12 .held

/-- The effects of an accepted RELEASE_HOLD naming plan p (R53). -/
def enterEntering (p : Nat) (s : State) : State :=
  let s1 := s.setTimebase { s.timebase with mode := .entering, entry := p }
  let s2 := s1.setSelector { s1.selector with liveBias := installedBias s1 p }
  raiseCause (queueNotice (.modeChanged .hold .entering p) s2)

/-- The Timebase in HOLD: counter, cycle length and plans 0, the divider stopped (R56). -/
def heldTimebase (t : Timebase) : Timebase :=
  { t with mode := .hold, cc := 0, c := 0, active := 0, pendingPlan := 0, entry := 0,
           divider := none }

/-- The effects of R56 up to the HOLD beat, with the reason the entries are dropped for (R136). No event
of the Timebase or of a local cycle stays due: HOLD has no cycle boundaries and no local zeros (R58, R62),
and a beat that the divider had made due and that is not taken yet is cancelled with the divider (DESIGN
CHOICE, log 35). -/
def stopCoordination (reason : DropReason) (s : State) : State :=
  let s1 := (s.setTimebase (heldTimebase s.timebase)).setCycles heldCycles
  let s2 := s1.setDue { Due.nothing with periodEnd := s1.due.periodEnd }
  let s3 := dropEntries (fun _ => true) reason (emptySteers s2)
  let s4 := engineToHold s3
  s4.setSelector
    { s4.selector with planPin := none, evalTimer := none, candidate := none, count := 0 }

/-- The effects of an accepted ENTER_HOLD (R56). -/
def holdEffects (s : State) : State :=
  queueNotice (.modeChanged s.timebase.mode .hold 0) (queueBeat (stopCoordination .hold s))

/-- What RESET_ENGINE does to the Timebase, the Window Generator, the priority list and the engine (R57):
as ENTER_HOLD, with both queues emptied first, and neither beat nor notice from HOLD. -/
def resetCoordination (s : State) : State :=
  let s1 := stopCoordination .engineReset (emptyBeat s)
  if s.timebase.mode = .hold then s1
  else queueNotice (.modeChanged s.timebase.mode .hold 0) (queueBeat s1)

/-- The effects of RESET_ENGINE (R173). The report clock starts from 0 (R138), and a period end that the
clock had made due and that is not taken yet is cancelled with it: R173 says nothing of such a period end
(DESIGN CHOICE, log 35). -/
def engineReset (s : State) : State :=
  let s1 := resetCoordination s
  let s2 := s1.setEngine { s1.engine with active := none }
  let s3 := (s2.setDemand .initial).setGate .initial
  let s4 := (s3.setRoster (.initial (junctionCount s3))).setDue { s3.due with periodEnd := false }
  s4.setSelector { s4.selector with biasPin := none }

/-! ### The live bias -/

/-- Set the live bias; a change of its value in ENTERING or RUN is a recompute cause (R28, R105). -/
def setLiveBias (b : Nat) (s : State) : State :=
  raiseCauseIf (decide (s.selector.liveBias ≠ b)) (s.setSelector { s.selector with liveBias := b })

/-- In ENTERING and RUN the live bias takes the value that the bias pin as it stands gives it: the clamped
pin, or the plan's nominal (R108, R109). In HOLD it keeps its value. -/
def applyBiasPin (s : State) : State :=
  if s.timebase.mode = .hold then s else setLiveBias (installedBias s (biasPlan s)) s

/-- A pending plan stands in RUN, so its computation takes the bias pin (R28, R32). -/
def pendingStands (s : State) : Bool :=
  decide (s.timebase.mode = .run) && decide (s.timebase.pendingPlan ≠ 0)

/-- The release of the bias pin (R109). -/
def releaseBiasPin (s : State) : State :=
  let s1 := applyBiasPin (s.setSelector { s.selector with biasPin := none })
  raiseCauseIf (pendingStands s) s1

/-- The bias pin set to a value (R108). -/
def setBiasPin (v : Nat) (s : State) : State :=
  let s1 := applyBiasPin (s.setSelector { s.selector with biasPin := some v })
  raiseCauseIf (pendingStands s && decide (s.selector.biasPin ≠ some v)) s1

/-! ### The plan pin -/

/-- No candidate, count 0 (R104, R106). -/
def clearCandidate (s : State) : State :=
  s.setSelector { s.selector with candidate := none, count := 0 }

/-- In RUN a pinned plan that is neither active nor pending becomes pending, and the active plan clears
the pending plan (R52, R106). -/
def applyPlanPin (p : Nat) (s : State) : State :=
  if s.timebase.mode ≠ .run then s
  else if p = s.timebase.active then
    if s.timebase.pendingPlan = 0 then s else setPendingPlan 0 s
  else if p = s.timebase.pendingPlan then s
  else setPendingPlan p s

/-- The comparison of the plan pin with the active plan at the entry into RUN (R107). -/
def checkPinAtEntry (s : State) : State :=
  match s.selector.planPin with
  | none => s
  | some p =>
    if p = s.timebase.active then s
    else if ready s p then setPendingPlan p s
    else s.setSelector { s.selector with planPin := none }

/-! ### Publication and the entry into RUN (R43, R54, R55) -/

/-- A steer with action NONE for a junction (R66). -/
def plainSteer (j : Junction) (s : State) : State := queueSteer j .none 0 s

/-- Every junction's record placed as R55 gives; those at N and above keep their values in HOLD (R60). -/
def placedCycles (s : State) : Vector LocalCycle 12 :=
  Vector.ofFn fun j => if j.val < junctionCount s then placedCycle s j else s.cycles[j]

/-- The full selection interval in ds (R101). -/
def fullInterval (s : State) : Nat := 10 * s.store.geometry.head.selectionInterval

/-- The corridor enters RUN at a publication in ENTERING (R54), with the check of the plan pin (R107). R54
asks for a beat and a steer for every junction 0..N-1 without an order: the beat is placed first, then the
steers in ascending index, then R107's check of the pin (DESIGN CHOICE, log 34). -/
def enterRun (s : State) : State :=
  let p := s.timebase.entry
  let s1 := s.setTimebase
    { s.timebase with mode := .run, active := p, entry := 0, cc := 0,
                      c := (s.store.plan p).head.c, divider := some 0 }
  let s2 := queueBeat s1
  let s3 := s2.setCycles (placedCycles s2)
  let s4 := forJunctions plainSteer (liveJunctions s3) s3
  let s5 := s4.setSelector { s4.selector with evalTimer := some (fullInterval s4) }
  checkPinAtEntry (queueNotice (.modeChanged .entering .run p) s5)

/-- Publish the result of a snapshot (R43): with the next generation, to the pending set for the pending
plan and to the active set otherwise; in ENTERING the corridor then enters RUN. -/
def publish (x : Snapshot) (s : State) : State :=
  let gen := (s.engine.generation + 1) % 65536
  let set := computeSet x gen
  let s1 := match computingRole s with
    | some (_, .pending) =>
      s.setEngine { s.engine with generation := gen, pendingSet := some set }
    | _ => s.setEngine { s.engine with generation := gen, active := some set }
  if s.timebase.mode = .entering then enterRun s1 else s1

/-- The result of a computation is discarded: the mark is set, or its plan is no longer computed (R43). -/
def discards (s : State) (x : Snapshot) : Bool :=
  s.engine.void || decide (computingPlan s ≠ some x.plan)

/-- The completion of the computation of a snapshot (R43, R44). A cause raised by the completion itself
arrives while the engine is COMPUTING, so it leads to the one further computation (log 23). -/
def completeComputation (x : Snapshot) (s : State) : State :=
  let discarded := discards s x
  let s1 := settle (if discarded then s else publish x s)
  if (computingPlan s1).isSome && (s1.engine.again || discarded) then startComputation s1
  else s1.setEngine { s1.engine with computing := none, again := false, void := false }

/-! ### The plan switch (R59) -/

/-- The plan's entry for the junction permits the direction (R125, R136). -/
def permits (p : PlanRecord) (j : Junction) (d : Direction) : Bool :=
  match d with
  | .inbound => p.entries[j].priIn
  | .outbound => p.entries[j].priOut

/-- The pending plan becomes active with its published target set (R48, R59). -/
def switchPlan (set : TargetSet) (s : State) : State :=
  let old := s.timebase.active
  let new := s.timebase.pendingPlan
  let s1 := s.setTimebase
    { s.timebase with active := new, c := (s.store.plan new).head.c, pendingPlan := 0 }
  let s2 := s1.setEngine { s1.engine with active := some set, pendingSet := none }
  let s3 := setLiveBias (installedBias s2 new) s2
  let s4 := dropEntries (fun e => !permits (s3.store.plan new) e.junction e.direction) .plan s3
  queueNotice (.planChanged old new set.generation) s4

/-- The test of a cycle boundary (R59). -/
def boundary (s : State) : State :=
  match s.engine.pendingSet with
  | none => s
  | some set =>
    if s.timebase.pendingPlan ≠ 0 ∧ set.plan = s.timebase.pendingPlan then switchPlan set s else s

/-! ### The evaluation of the Plan Selector (R101 to R104) -/

/-- One slew step toward a target (R102). -/
def slew (b target : Nat) : Nat :=
  if b ≤ target then min target (b + Config.slewStep) else max target (b - Config.slewStep)

/-- The bias step (R102), passed over under a bias pin. -/
def biasStep (s : State) : State :=
  if s.selector.biasPin.isSome then s else setLiveBias (slew s.selector.liveBias (biasTarget s)) s

/-- A selection entry matches (R103). -/
def matchesEntry (s : State) (e : SelectionEntry) : Bool :=
  e.valid && ready s e.plan && decide (e.low ≤ totalDemand s) && decide (totalDemand s ≤ e.high) &&
  (decide (e.dominance = .any) || decide (e.dominance = dominanceNow s))

/-- The first matching entry in index order (R103). -/
def selectionMatch (s : State) : Option SelectionEntry :=
  s.store.selection.toList.find? (matchesEntry s)

/-- The candidate and count after a match of a plan that is neither active nor pending (R104). -/
def countMatch (sel : Selector) (plan : Nat) : Nat :=
  if sel.candidate = some plan then sel.count + 1 else 1

/-- The matching step (R103, R104), passed over under a plan pin. -/
def matchingStep (s : State) : State :=
  if s.selector.planPin.isSome then s
  else
    match selectionMatch s with
    | none => clearCandidate s
    | some e =>
      if e.plan = s.timebase.active ∨ e.plan = s.timebase.pendingPlan then clearCandidate s
      else if e.persistence ≤ countMatch s.selector e.plan then
        setPendingPlan e.plan (clearCandidate s)
      else
        s.setSelector
          { s.selector with candidate := some e.plan, count := countMatch s.selector e.plan }

/-- The lapse of the pins (R110). -/
def lapsePins (s : State) : State :=
  let s1 := releaseBiasPin (s.setSelector { s.selector with planPin := none })
  queueNotice (.pinLapsed s.selector.planPin s.selector.biasPin) (clearCandidate s1)

end Sys2Proof.Machine
end

