-- ==== Sys2Proof/Machine/Events.lean ====
section
/-! DEFINITION. The meanings of the event commands: resets, the events of the timebase, retention and
computation, and the events of the two ports. A command whose occasion does not stand (an event that
is not due, a completion of nothing) changes nothing (log 2). -/

namespace Sys2Proof.Machine

open Sys2Proof

/-- An event of the running unit: nothing happens while RESET_N holds it in reset (R170). -/
def whenRunning (act : State → State) (s : State) : State := if s.inReset then s else act s

/-! ### Resets (R170 to R172) -/

/-- RESET_N goes low: a frame in flight is abandoned on either port, a retention write is torn, and an
accepted RESET_UNIT is replaced (R161, R170, R172). -/
def assertReset (s : State) : State :=
  let s1 := (s.setInReset true).setRetained (tearWrite s.retained s.retention)
  let s2 := (s1.setRetention none).setHandler { s1.handler with reset := none }
  (s2.setLine { s2.line with inFlight := none }).setCentre { s2.centre with sending := none }

/-- The start decision (R171). -/
def startDecision (s : State) : State :=
  let p := s.store.geometry.head.startPlan
  if s.straps.start = .auto ∧ s.store.geometry.state = .valid ∧ isPlan p = true ∧ ready s p = true
  then settle (enterEntering p s)
  else s

/-- Steps 2 and 3 of R170: the working copy is loaded and every volatile item takes its value after a
hardware reset. Only the straps, the retained memory and the waiting commands are carried over. -/
def restart (s : State) : State :=
  let retained := tearWrite s.retained s.retention
  { inReset := false
    straps := s.straps
    store := loadStore retained
    retention := none
    retained
    engine := .initial
    timebase := .initial
    cycles := heldCycles
    due := .nothing
    demand := .initial
    selector := .initial
    gate := .initial
    priority := .initial
    roster := .initial (loadStore retained).geometry.head.n
    line := .initial
    centre := .initial
    handler := .initial
    causeRaised := false
    pending := s.pending }

/-- A hardware reset (R170): the straps are latched, then steps 2 to 4. -/
def hardwareReset (pins : Straps) (s : State) : State := startDecision (restart (s.setStraps pins))

/-- The RESET_UNIT reply has completed, or completes with this event as the last frame of the centre
port (R172; log 16). -/
def resetMayTakeEffect (s : State) : Option PendingReset :=
  match s.handler.reset with
  | none => none
  | some r =>
    if r.replyDone ∨ (s.centre.replies = [] ∧ s.centre.sending.any (fun f => f.isReply) = true) then
      some r
    else none

/-- RESET_UNIT takes effect (R172): as a hardware reset, the straps latched only with option 1. -/
def resetUnitNow (pins : Straps) (s : State) : State :=
  match resetMayTakeEffect s with
  | none => s
  | some r => if r.relatch then hardwareReset pins s else startDecision (restart s)

/-- RESET_N_ASSERT (R170). -/
def execResetNAssert (s : State) : Host.Outcome State Fault Refusal := .next (assertReset s)

/-- HARDWARE_RESET (R170). -/
def execHardwareReset (pins : Straps) (s : State) : Host.Outcome State Fault Refusal :=
  .next (hardwareReset pins s)

/-- RESET_UNIT_TAKES_EFFECT (R172). -/
def execResetUnitTakesEffect (pins : Straps) (s : State) : Host.Outcome State Fault Refusal :=
  .next (whenRunning (resetUnitNow pins) s)

/-! ### Timebase events -/

/-- The cycle boundary, once CC has returned to 0 (R58, R59). -/
def cycleBoundary (s : State) : State :=
  if s.due.boundary then settle (boundary (s.setDue { s.due with boundary := false })) else s

/-- CYCLE_BOUNDARY (R59). -/
def execCycleBoundary (s : State) : Host.Outcome State Fault Refusal :=
  .next (whenRunning cycleBoundary s)

/-- The seven stages of the local zero of junction j, once its LC has returned to 0 (R63 to R66). -/
def localZero (j : Junction) (s : State) : State :=
  if s.due.localZero[j] then
    let s1 := s.setDue { s.due with localZero := s.due.localZero.set j.val false j.isLt }
    let s2 := setCycle s1 j (zeroedCycle s1 j)
    settle (evaluate j (plainSteer j s2))
  else s

/-- LOCAL_ZERO (R63). -/
def execLocalZero (j : Nat) (s : State) : Host.Outcome State Fault Refusal :=
  match junctionAt j with
  | some j => .next (whenRunning (localZero j) s)
  | none => .fault .noSuchJunction

/-- The close of junction j's window, once its LC has reached the window end in RUN (R68). -/
def windowClose (j : Junction) (s : State) : State :=
  if s.timebase.mode = .run ∧ closeDue s.cycles[j] = true then settle (closeWindow j s) else s

/-- WINDOW_CLOSE (R68). -/
def execWindowClose (j : Nat) (s : State) : Host.Outcome State Fault Refusal :=
  match junctionAt j with
  | some j => .next (whenRunning (windowClose j) s)
  | none => .fault .noSuchJunction

/-- The beat that the divider has made due is queued (R70). -/
def beatNow (s : State) : State :=
  if s.due.beat then queueBeat (s.setDue { s.due with beat := false }) else s

/-- BEAT_DUE (R70). -/
def execBeatDue (s : State) : Host.Outcome State Fault Refusal := .next (whenRunning beatNow s)

/-- An evaluation of the Plan Selector, once its timer has expired: the timer starts again, then the bias
step and the matching step (R101). The causes of both steps arrive as one at the end of the evaluation
(R28): with the engine IDLE, an evaluation that moves the bias and proposes a plan starts one
computation, for the new pending plan, and none for the active plan before it (DESIGN CHOICE, log 32:
section 5.8 leaves room for the other). -/
def selectorEvaluation (s : State) : State :=
  if evaluationDue s then
    settle (matchingStep (biasStep
      (s.setSelector { s.selector with evalTimer := some (fullInterval s) })))
  else s

/-- EVALUATION (R101). -/
def execEvaluation (s : State) : Host.Outcome State Fault Refusal :=
  .next (whenRunning selectorEvaluation s)

/-- The pins lapse, once the silence timer has reached the pin lapse with a pin set (R110). -/
def pinLapse (s : State) : State := if lapseDue s then settle (lapsePins s) else s

/-- PIN_LAPSE (R110). -/
def execPinLapse (s : State) : Host.Outcome State Fault Refusal := .next (whenRunning pinLapse s)

/-- The period end, once the report clock has reached 10 × R (R140, R141). -/
def periodEnd (s : State) : State :=
  if s.due.periodEnd then
    let s1 := s.setDue { s.due with periodEnd := false }
    settle (forJunctions periodEndFor (liveJunctions s1) s1)
  else s

/-- PERIOD_END (R141). -/
def execPeriodEnd (s : State) : Host.Outcome State Fault Refusal := .next (whenRunning periodEnd s)

/-- The expiry of the entry with a key, once the clock has reached its expiry time (R135). -/
def expireEntry (j : Junction) (tag : Nat) (s : State) : State :=
  match findEntry s j tag with
  | some e => if expired s e then removeEntry e .expired s else s
  | none => s

/-- PRIORITY_EXPIRY (R135). -/
def execPriorityExpiry (j tag : Nat) (s : State) : Host.Outcome State Fault Refusal :=
  match junctionAt j with
  | some j => .next (whenRunning (expireEntry j tag) s)
  | none => .fault .noSuchJunction

/-- A retention write completes: the record's cells equal the working copy's, and retention returns to
IDLE (R20). -/
def completeRetention (s : State) : State :=
  match s.retention with
  | none => s
  | some record => (s.setRetained (keepRecord s.store s.retained record)).setRetention none

/-- RETENTION_COMPLETE (R20). -/
def execRetentionComplete (s : State) : Host.Outcome State Fault Refusal :=
  .next (whenRunning completeRetention s)

/-- The computation in flight completes (R43, R44). -/
def computationDone (s : State) : State :=
  match s.engine.computing with
  | none => s
  | some x => completeComputation x s

/-- COMPUTATION_COMPLETE (R43). -/
def execComputationComplete (s : State) : Host.Outcome State Fault Refusal :=
  .next (whenRunning computationDone s)

/-! ### The decisecond (R58, R62, R70, R101, R110, R123, R140) -/

/-- LC one ds on: it returns to 0 when it would pass Lcur - 1 (R62). -/
def tickCycle (r : LocalCycle) : LocalCycle :=
  { r with lc := if r.lcur ≤ r.lc + 1 then 0 else r.lc + 1 }

/-- LC returns to 0 in the coming ds (R62). -/
def wraps (r : LocalCycle) : Bool := decide (r.lcur ≤ r.lc + 1)

/-- The ds to the next beat, one ds on: 0 in the ds in which a beat is due, then 9 (R70). -/
def tickDivider (d : Nat) : Nat := if d = 0 then 9 else d - 1

/-- What advances in every corridor mode: the priority clock, the report clock and the silence timer. -/
def tickClocks (s : State) : State :=
  let ends := decide (10 * s.store.geometry.head.reportPeriod ≤ s.roster.clock + 1)
  let s1 := s.setPriority { s.priority with clock := timeAfter s.priority.clock 1 }
  let s2 := s1.setRoster { s1.roster with clock := if ends then 0 else s1.roster.clock + 1 }
  let s3 := s2.setSelector
    { s2.selector with silence := min Config.silenceMax (s2.selector.silence + 1) }
  s3.setDue { s3.due with periodEnd := ends }

/-- What advances in RUN: CC, every running LC, the beat divider and the evaluation timer. -/
def tickRun (s : State) : State :=
  let t := s.timebase
  let ends := decide (t.c ≤ t.cc + 1)
  let n := junctionCount s
  let s1 := s.setTimebase
    { t with cc := if ends then 0 else t.cc + 1, divider := t.divider.map tickDivider }
  let s2 := s1.setSelector
    { s1.selector with evalTimer := s1.selector.evalTimer.map fun v => v - 1 }
  let s3 := s2.setDue
    { s2.due with
      boundary := ends
      beat := decide (t.divider.map tickDivider = some 0)
      localZero := Vector.ofFn fun j => decide (j.val < n) && wraps s.cycles[j] }
  s3.setCycles (Vector.ofFn fun j => if j.val < n then tickCycle s.cycles[j] else s.cycles[j])

/-- One ds passes, once every event of the present ds has been taken (log 2). -/
def tick (s : State) : State :=
  if somethingDue s then s
  else if s.timebase.mode = .run then tickRun (tickClocks s)
  else tickClocks s

/-- DECISECOND_TICK (R58). -/
def execDecisecondTick (s : State) : Host.Outcome State Fault Refusal := .next (whenRunning tick s)

/-! ### The corridor line: states (R151) -/

/-- The line goes dominant while FREE (R151). -/
def lineBusy (s : State) : State :=
  if s.line.state = .free then s.setLine { s.line with state := .busy } else s

/-- LINE_BUSY (R151). -/
def execLineBusy (s : State) : Host.Outcome State Fault Refusal := .next (whenRunning lineBusy s)

/-- The first character of the assembled ones names the unit (R152). -/
def namesUnit (s : State) : List Byte → Bool
  | dest :: _ => namesStation dest (unitAddress s)
  | [] => false

/-- The characters are those of the frame that the unit itself is sending, as far as they go (R152; log
18). -/
def sendsItself (s : State) (chars : List Byte) : Bool :=
  s.line.inFlight.any fun f => chars.isPrefixOf f.chars

/-- The unit takes the frame that begins with these characters: it names the unit, and the unit itself is
not sending it (R152). -/
def takesFrame (s : State) (chars : List Byte) : Bool := namesUnit s chars && !sendsItself s chars

/-- A framing fault when the gap finds a frame that the unit takes incomplete (R153). -/
def gapFault (s : State) (partialRx : List Byte) : State :=
  if takesFrame s partialRx && decide (assemble partialRx = .incomplete) then
    s.setLine { s.line with errors := s.line.errors.raise .framing }
  else s

/-- The line has been recessive for 12 bit times: FREE, with a notice on departure from FAULT, and the
port may start a frame (R151, R155). -/
def lineFree (partialRx : List Byte) (s : State) : State :=
  if s.line.state = .free then s
  else
    let s1 := gapFault s partialRx
    let s2 := s1.setLine { s1.line with state := .free }
    let s3 := if s.line.state = .fault then queueNotice (.lineState .free) s2 else s2
    startLine s3

/-- LINE_FREE (R151). -/
def execLineFree (partialRx : List Byte) (s : State) : Host.Outcome State Fault Refusal :=
  .next (whenRunning (lineFree partialRx) s)

/-- The line has been dominant for more than 22 bit times (R151). -/
def lineFault (s : State) : State :=
  if s.line.state = .busy then
    queueNotice (.lineState .fault) (s.setLine { s.line with state := .fault })
  else s

/-- LINE_FAULT (R151). -/
def execLineFault (s : State) : Host.Outcome State Fault Refusal := .next (whenRunning lineFault s)

/-! ### The corridor line: the frame in flight (R156, R157) -/

/-- The credits after a frame of an item completes (R155, R156). -/
def spendCredit (item : LineItem) (l : Line) : Line :=
  match item with
  | .beat _ => l
  | .steer _ => { l with steerCredit := l.steerCredit - 1 }
  | .queued _ => { l with replyCredit := l.replyCredit - 1 }

/-- The frame in flight completes (R156). -/
def frameComplete (s : State) : State :=
  match s.line.inFlight with
  | none => s
  | some f => s.setLine (spendCredit f.item { s.line with inFlight := none })

/-- FRAME_COMPLETE (R156). -/
def execFrameComplete (s : State) : Host.Outcome State Fault Refusal :=
  .next (whenRunning frameComplete s)

/-- The port after a frame is discarded at its sixteenth loss (R157). The arbitration-drop count and the
missed-beat count stay at 65,535 once they stand there (DESIGN CHOICE, log 33: R149 gives the range
alone). -/
def discardLost (item : LineItem) (l : Line) : Line :=
  let l1 := { l with arbitrationDrops := bump l.arbitrationDrops }
  match item with
  | .beat _ => { l1 with missedBeats := bump l1.missedBeats }
  | _ => l1

/-- The port after a lost frame returns to its queue with its loss count (R157). The missed-beat count
saturates (DESIGN CHOICE, log 33). -/
def returnLost (item : LineItem) (losses : Nat) (l : Line) : Line :=
  match item with
  | .beat seq =>
    if l.beat.isSome then { l with missedBeats := bump l.missedBeats }
    else { l with beat := some { seq, losses } }
  | .steer st =>
    if l.steers.any fun w => decide (w.steer.junction = st.junction) then l
    else { l with steers := { steer := st, losses } :: l.steers }
  | .queued item => { l with replies := { item, losses } :: l.replies }

/-- The frame in flight has lost arbitration (R156, R157). A steer whose queue was emptied under it is
discarded without a count, at any loss count (R161; log 14). -/
def arbitrationLoss (s : State) : State :=
  match s.line.inFlight with
  | none => s
  | some f =>
    let l := { s.line with inFlight := none }
    if f.orphaned then s.setLine l
    else if Config.lossLimit ≤ f.losses + 1 then s.setLine (discardLost f.item l)
    else s.setLine (returnLost f.item (f.losses + 1) l)

/-- ARBITRATION_LOSS (R156). -/
def execArbitrationLoss (s : State) : Host.Outcome State Fault Refusal :=
  .next (whenRunning arbitrationLoss s)

/-! ### Reception (R152, R153, R162) -/

/-- A receive fault of the line is counted (R153). -/
def lineRxFault (fault : RxFault) (s : State) : State :=
  s.setLine { s.line with errors := s.line.errors.raise fault }

/-- A receive fault of the centre link is counted (R162). -/
def centreRxFault (fault : RxFault) (s : State) : State :=
  s.setCentre { s.centre with errors := s.centre.errors.raise fault }

/-- A frame for the unit is placed in the line receive queue, or discarded as an overrun (R152, R153). -/
def placeLineFrame (f : Frame) (s : State) : State :=
  if s.line.rx.length < Config.rxPlaces then s.setLine { s.line with rx := s.line.rx ++ [f] }
  else lineRxFault .overrun s

/-- A frame is placed in the centre receive queue and sets the silence timer to 0, or is discarded as an
overrun (R110, R162). -/
def placeCentreFrame (f : Frame) (s : State) : State :=
  if s.centre.rx.length < Config.rxPlaces then
    (s.setCentre { s.centre with rx := s.centre.rx ++ [f] }).setSelector
      { s.selector with silence := 0 }
  else centreRxFault .overrun s

/-- A frame ends on the line. It is ignored unless the unit takes it; a length or check fault is counted
(R152, R153). -/
def lineReceive (chars : List Byte) (s : State) : State :=
  if takesFrame s chars then
    match assemble chars with
    | .complete f => placeLineFrame f s
    | .badLength => lineRxFault .length s
    | .badCheck => lineRxFault .check s
    | .incomplete => s
    | .overlong => s
  else s

/-- LINE_FRAME_RECEIVED (R152). -/
def execLineFrameReceived (chars : List Byte) (s : State) : Host.Outcome State Fault Refusal :=
  .next (whenRunning (lineReceive chars) s)

/-- A frame ends on the centre link, whatever its destination (R162). -/
def centreReceive (chars : List Byte) (s : State) : State :=
  match assemble chars with
  | .complete f => placeCentreFrame f s
  | .badLength => centreRxFault .length s
  | .badCheck => centreRxFault .check s
  | .incomplete => s
  | .overlong => s

/-- CENTRE_FRAME_RECEIVED (R162). -/
def execCentreFrameReceived (chars : List Byte) (s : State) : Host.Outcome State Fault Refusal :=
  .next (whenRunning (centreReceive chars) s)

/-- The fault is one that the whole characters assembled before it allow, with a receive queue of the
given length (R153): a framing fault may fall in the first character, a broken frame needs a begun
one, and the other three are seen in the characters. -/
def faultStands (fault : RxFault) (chars : List Byte) (queued : Nat) : Bool :=
  match fault, assemble chars with
  | .framing, .incomplete => true
  | .brokenFrame, .incomplete => !chars.isEmpty
  | .length, .badLength => true
  | .check, .badCheck => true
  | .overrun, .complete _ => decide (Config.rxPlaces ≤ queued)
  | _, _ => false

/-- A frame being assembled from the line is discarded (R153). A framing fault in the first character is
counted whatever it held; the others only for a frame that the unit takes. -/
def lineDiscard (fault : RxFault) (chars : List Byte) (s : State) : State :=
  if faultStands fault chars s.line.rx.length && (chars.isEmpty || takesFrame s chars) then
    lineRxFault fault s
  else s

/-- LINE_FRAME_DISCARDED (R153). -/
def execLineFrameDiscarded (fault : RxFault) (chars : List Byte) (s : State) :
    Host.Outcome State Fault Refusal :=
  .next (whenRunning (lineDiscard fault chars) s)

/-- A frame being assembled from the centre link is discarded (R162). -/
def centreDiscard (fault : RxFault) (chars : List Byte) (s : State) : State :=
  if faultStands fault chars s.centre.rx.length then centreRxFault fault s else s

/-- CENTRE_FRAME_DISCARDED (R162). -/
def execCentreFrameDiscarded (fault : RxFault) (chars : List Byte) (s : State) :
    Host.Outcome State Fault Refusal :=
  .next (whenRunning (centreDiscard fault chars) s)

/-! ### The centre transmitter (R163, R172) -/

/-- The completed frame is the RESET_UNIT reply: the last reply, sent while that reset waits. -/
def endsResetReply (c : Centre) (sent : CentreSending) : Bool := sent.isReply && c.replies.isEmpty

/-- A waiting RESET_UNIT after a frame of the centre link completes. -/
def markReplyDone (c : Centre) (sent : CentreSending) (h : Handler) : Handler :=
  match h.reset with
  | none => h
  | some r => { h with reset := some { r with replyDone := r.replyDone || endsResetReply c sent } }

/-- The frame on the centre link finishes and the next is started (R163). -/
def centreComplete (s : State) : State :=
  match s.centre.sending with
  | none => s
  | some sent =>
    startCentre ((s.setHandler (markReplyDone s.centre sent s.handler)).setCentre
      { s.centre with sending := none })

/-- CENTRE_FRAME_COMPLETE (R163). -/
def execCentreFrameComplete (s : State) : Host.Outcome State Fault Refusal :=
  .next (whenRunning centreComplete s)

end Sys2Proof.Machine
end

