-- ==== Sys2Proof/Machine/Operands.lean ====
section
/-! DEFINITION. The operands of a request: which frame the Request Handler takes next, who sent it, and
the handler's own checks before a request reaches its block (R165, R166). -/

namespace Sys2Proof.Machine

open Sys2Proof

/-- Who sends a request (R166). -/
inductive Sender where
  | junction (j : Junction)
  | unknown
  | centre
  deriving DecidableEq, Repr

/-- A frame the handler has taken, the port it came by, and its sender. -/
structure Taken where
  port   : Port
  frame  : Frame
  sender : Sender
  deriving DecidableEq, Repr

/-- The sender of a frame: on the line, the junction its source maps to (R6, R166). -/
def senderOf (s : State) (port : Port) (f : Frame) : Sender :=
  match port with
  | .centre => .centre
  | .line =>
    match junctionOf s (addressOf f.src) with
    | some j => .junction j
    | none => .unknown

/-- The source a priority entry holds for a call (R126, R166). -/
def Taken.source (t : Taken) : Source :=
  match t.port with
  | .centre => .centre
  | .line => .station (addressOf t.frame.src)

/-- The line port has a frame to take and room for its reply (R165). -/
def lineServable (s : State) : Bool :=
  !s.line.rx.isEmpty && decide (lineReplyCount s.line < Config.lineReplyPlaces)

/-- The centre port has a frame to take and room for its reply (R165). -/
def centreServable (s : State) : Bool :=
  !s.centre.rx.isEmpty && decide (centreReplyCount s.centre < Config.centreReplyPlaces)

/-- The port the handler serves next: the only one that it can, and of two the one the alternation
pointer does not name (R165). In reset, and while a RESET_UNIT waits to take effect, it takes no
frame (R170, R172). -/
def nextPort (s : State) : Option Port :=
  if s.inReset || s.handler.reset.isSome then none
  else if lineServable s then
    if centreServable s && decide (s.handler.served = .line) then some .centre else some .line
  else if centreServable s then some .centre
  else none

/-- The next frame at a port. -/
def headFrame (s : State) : Port → Option Frame
  | .line => s.line.rx.head?
  | .centre => s.centre.rx.head?

/-- The frame the handler takes next (R165). -/
def nextFrame (s : State) : Option Taken :=
  match nextPort s with
  | none => none
  | some port =>
    match headFrame s port with
    | none => none
    | some f => some { port, frame := f, sender := senderOf s port f }

/-- The state once the handler has taken a frame from a port: the receive queue is shorter by it and the
pointer names the port (R165). -/
def takeFrame (port : Port) (s : State) : State :=
  let s1 := s.setHandler { s.handler with served := port }
  match port with
  | .line => s1.setLine { s1.line with rx := s1.line.rx.drop 1 }
  | .centre => s1.setCentre { s1.centre with rx := s1.centre.rx.drop 1 }

/-! ### Rights (R166) -/

/-- Is the kind one of the read requests? (section 10.3) -/
def isReadKind : RequestKind → Bool
  | .readStatus | .readJunction | .readBand | .readPlanHead | .readPlanGroup | .readGeometryHead
  | .readGeometryGroup | .readSelection => true
  | _ => false

/-- May the sender send the kind? (R166, table) -/
def maySend (k : RequestKind) : Sender → Bool
  | .centre => decide (k ≠ .report)
  | .unknown => isReadKind k
  | .junction _ => isReadKind k || decide (k = .report) || decide (k = .priorityCall) ||
      decide (k = .priorityCancel)

/-- A junction station's PRIORITY_CALL or PRIORITY_CANCEL of the right length that names a junction other
than its own (R166). -/
def namesOther (k : RequestKind) (sender : Sender) (payload : List Byte) : Bool :=
  match sender with
  | .junction j =>
    (decide (k = .priorityCall) || decide (k = .priorityCancel)) &&
    decide (payload.length = k.payloadLength) &&
    (payload.head?.any fun b => decide (b.toNat ≠ j.val))
  | _ => false

/-- The sender has the right to make the request (R166, item 2). -/
def hasRight (k : RequestKind) (t : Taken) : Bool :=
  maySend k t.sender && !namesOther k t.sender t.frame.payload

/-! ### Serving a request -/

/-- What a block answers a request with: a code, and a result that is sent with OK alone. -/
structure Answer where
  code   : ReplyCode
  result : List Byte
  deriving DecidableEq, Repr

/-- The result a reply carries: none follows a code other than OK (R166). -/
def Answer.carried (a : Answer) : List Byte := if a.code = .ok then a.result else []

/-- A refusal. -/
def refuse (code : ReplyCode) : Answer := { code, result := [] }

/-- An acceptance without a result, or the first refusal that applies. -/
def verdict (refusals : List (Bool × ReplyCode)) : Answer := refuse (firstRefusal refusals)

/-- One page of a read result, or BAD_ARGUMENT beyond the last page (R159). -/
def pageAnswer (result : List Byte) (page : Nat) : Answer :=
  match pageOf result page with
  | some chars => { code := .ok, result := chars }
  | none => refuse .badArgument

/-- The handler takes the next frame and serves it as a request of kind k. `parse` reads the payload,
`answer` is the owning block's answer from the state at the admission, and `effect` what an accepted
request does. The reply is queued first and the effect follows (R126; log 8); the recompute causes
of the effect arrive together at its end (R28). When no frame is to be taken, or the next one is of
another kind, this is not the step that happens, and nothing changes (log 2). -/
def serve {α : Type} (k : RequestKind) (parse : List Byte → Option α)
    (answer : Taken → α → State → Answer) (effect : Taken → α → State → State) (s : State) :
    State :=
  match nextFrame s with
  | none => s
  | some t =>
    if kindOf t.frame.kind = some k then
      let s1 := takeFrame t.port s
      if hasRight k t then
        match parse t.frame.payload with
        | none => queueReply t.port t.frame .badArgument [] s1
        | some body =>
          let a := answer t body s1
          let s2 := queueReply t.port t.frame a.code a.carried s1
          if a.code = .ok then settle (effect t body s2) else s2
      else queueReply t.port t.frame .refusedRights [] s1
    else s

/-- The handler takes the next frame and answers a kind that is no request kind (R166, item 1). -/
def serveUnknown (s : State) : State :=
  match nextFrame s with
  | none => s
  | some t =>
    if kindOf t.frame.kind = none then
      queueReply t.port t.frame .unknownKind [] (takeFrame t.port s)
    else s

/-- The effect of a request that changes nothing. -/
def noEffect {α : Type} (_t : Taken) (_body : α) (s : State) : State := s

end Sys2Proof.Machine
end

