-- ==== Sys2Proof/Machine/Requests.lean ====
section
/-! DEFINITION. The meanings of the request commands: for each the answer of the block that owns it and
the effect of its acceptance (section 10.4), then the command itself, in which the Request Handler
takes the next frame and serves it. -/

namespace Sys2Proof.Machine

open Sys2Proof

/-- What every command of this model ends in. -/
abbrev Result := Host.Outcome State Fault Refusal

/-! ### Junction requests -/

/-- REPORT: THROTTLED at the third report of a period (R142). A sender without a junction has no right to
the kind, so the last case does not arise. -/
def answerReport (t : Taken) (_b : ReportBody) (s : State) : Answer :=
  match t.sender with
  | .junction j => verdict [(decide (2 ≤ s.roster.junctions[j].reports), .throttled)]
  | _ => refuse .refusedRights

/-- REPORT accepted (R143). -/
def effectReport (t : Taken) (b : ReportBody) (s : State) : State :=
  match t.sender with
  | .junction j => acceptReport j b s
  | _ => s

/-- REPORT (R142). -/
def execReport (s : State) : Result := .next (serve .report parseReport answerReport effectReport s)

/-- The refusals of a call for an existing junction, after item 1 of R125. -/
def callRefusals (b : CallBody) (j : Junction) (s : State) : List (Bool × ReplyCode) :=
  [(decide (s.timebase.mode ≠ .run), .wrongMode),
   (!permits (s.store.plan s.timebase.active) j b.direction, .badArgument),
   (decide (s.roster.junctions[j].state = .lost) || !s.roster.junctions[j].following, .notReady),
   ((findEntry s j b.tag).isNone && decide (Config.priorityPlaces ≤ s.priority.list.length),
     .listFull)]

/-- PRIORITY_CALL: the refusals of R125 in their order. -/
def answerCall (_t : Taken) (b : CallBody) (s : State) : Answer :=
  if b.tag = 0 ∨ junctionCount s ≤ b.junction then refuse .badArgument
  else
    match junctionAt b.junction with
    | some j => verdict (callRefusals b j s)
    | none => refuse .badArgument

/-- The entry of a call (R126). -/
def callEntry (t : Taken) (b : CallBody) (j : Junction) (s : State) : PriorityEntry :=
  { junction := j, direction := b.direction, tag := b.tag, source := t.source,
    due := timeAfter s.priority.clock (min b.eta Config.etaMax),
    expiry := timeAfter s.priority.clock (10 * s.store.geometry.head.priorityExpiry) }

/-- The list with an entry refreshed in its place, or added at its end (R126). -/
def listCall (e : PriorityEntry) (list : List PriorityEntry) : List PriorityEntry :=
  if list.any (hasKey e.junction e.tag) then
    list.map fun x => if hasKey e.junction e.tag x then e else x
  else list ++ [e]

/-- PRIORITY_CALL accepted: the entry is added or refreshed and an evaluation follows (R126). -/
def effectCall (t : Taken) (b : CallBody) (s : State) : State :=
  match junctionAt b.junction with
  | some j =>
    evaluate j (s.setPriority
      { s.priority with list := listCall (callEntry t b j s) s.priority.list })
  | none => s

/-- PRIORITY_CALL (R125). -/
def execPriorityCall (s : State) : Result :=
  .next (serve .priorityCall parseCall answerCall effectCall s)

/-- The extension of junction j that holds a tag. -/
def extensionWith (s : State) (j : Junction) (tag : Nat) : Option Extension :=
  match s.cycles[j].extension with
  | some e => if e.tag = tag then some e else none
  | none => none

/-- PRIORITY_CANCEL: BAD_ARGUMENT, or NOT_FOUND without an entry or an extension to cut (R133). -/
def answerCancel (_t : Taken) (b : CancelBody) (s : State) : Answer :=
  if b.tag = 0 ∨ junctionCount s ≤ b.junction then refuse .badArgument
  else
    match junctionAt b.junction with
    | some j =>
      verdict [((findEntry s j b.tag).isNone && (extensionWith s j b.tag).isNone, .notFound)]
    | none => refuse .badArgument

/-- PRIORITY_CANCEL accepted: the entry leaves CANCELLED, or the extension is cut (R133). -/
def effectCancel (_t : Taken) (b : CancelBody) (s : State) : State :=
  match junctionAt b.junction with
  | some j =>
    match findEntry s j b.tag with
    | some e => removeEntry e .cancelled s
    | none =>
      match extensionWith s j b.tag with
      | some x => cutExtension j x s
      | none => s
  | none => s

/-- PRIORITY_CANCEL (R133). -/
def execPriorityCancel (s : State) : Result :=
  .next (serve .priorityCancel parseCancel answerCancel effectCancel s)

/-! ### Status reads -/

/-- READ_STATUS: the page as it stands (R167), and BAD_ARGUMENT beyond the last page (R159), which with the
clear option clears nothing (DESIGN CHOICE, log 37). -/
def answerStatus (_t : Taken) (b : StatusBody) (s : State) : Answer :=
  pageAnswer (statusResult s) b.page

/-- The counters of both ports at 0 (R160, R164, R167). -/
def clearCounters (s : State) : State :=
  (s.setLine { s.line with errors := .zero, arbitrationDrops := 0, missedBeats := 0 }).setCentre
    { s.centre with errors := .zero }

/-- READ_STATUS with the clear option clears the counters (R167), where the page it asks for is answered:
a page beyond the last is refused, and no counter is cleared (DESIGN CHOICE, log 37). -/
def effectStatus (_t : Taken) (b : StatusBody) (s : State) : State :=
  if b.clear then clearCounters s else s

/-- READ_STATUS (R167). -/
def execReadStatus (s : State) : Result :=
  .next (serve .readStatus parseStatus answerStatus effectStatus s)

/-- READ_JUNCTION: BAD_ARGUMENT for an index of 12 or above, otherwise the page (R168). -/
def answerJunction (_t : Taken) (b : IndexedRead) (s : State) : Answer :=
  match junctionAt b.index with
  | some j => pageAnswer (junctionResult s j) b.page
  | none => refuse .badArgument

/-- READ_JUNCTION (R168). -/
def execReadJunction (s : State) : Result :=
  .next (serve .readJunction parseIndexed answerJunction noEffect s)

/-- READ_BAND: a page of the active target set (R50). -/
def answerBand (_t : Taken) (page : Nat) (s : State) : Answer := pageAnswer (bandResult s) page

/-- READ_BAND (R50). -/
def execReadBand (s : State) : Result := .next (serve .readBand parseOne answerBand noEffect s)

/-! ### Plan Store reads (R2) -/

/-- READ_PLAN_HEAD (R2, R16). -/
def answerPlanHeadRead (_t : Taken) (b : IndexedRead) (s : State) : Answer :=
  if isPlan b.index then pageAnswer (planHeadResult s b.index) b.page else refuse .badArgument

/-- READ_PLAN_HEAD (R16). -/
def execReadPlanHead (s : State) : Result :=
  .next (serve .readPlanHead parseIndexed answerPlanHeadRead noEffect s)

/-- READ_PLAN_GROUP (R2, R16). -/
def answerPlanGroupRead (_t : Taken) (b : PlanGroupRead) (s : State) : Answer :=
  if isPlan b.plan && decide (b.group ≤ 2) then pageAnswer (planGroupResult s b.plan b.group) b.page
  else refuse .badArgument

/-- READ_PLAN_GROUP (R16). -/
def execReadPlanGroup (s : State) : Result :=
  .next (serve .readPlanGroup parsePlanGroupRead answerPlanGroupRead noEffect s)

/-- READ_GEOMETRY_HEAD (R2, R8). -/
def answerGeometryHeadRead (_t : Taken) (page : Nat) (s : State) : Answer :=
  pageAnswer (geometryHeadResult s) page

/-- READ_GEOMETRY_HEAD (R8). -/
def execReadGeometryHead (s : State) : Result :=
  .next (serve .readGeometryHead parseOne answerGeometryHeadRead noEffect s)

/-- READ_GEOMETRY_GROUP (R2, R8). -/
def answerGeometryGroupRead (_t : Taken) (b : IndexedRead) (s : State) : Answer :=
  if b.index ≤ 2 then pageAnswer (geometryGroupResult s b.index) b.page else refuse .badArgument

/-- READ_GEOMETRY_GROUP (R8). -/
def execReadGeometryGroup (s : State) : Result :=
  .next (serve .readGeometryGroup parseIndexed answerGeometryGroupRead noEffect s)

/-- READ_SELECTION (R2, R19). -/
def answerSelectionRead (_t : Taken) (b : IndexedRead) (s : State) : Answer :=
  if b.index ≤ 15 then pageAnswer (selectionResult s b.index) b.page else refuse .badArgument

/-- READ_SELECTION (R19). -/
def execReadSelection (s : State) : Result :=
  .next (serve .readSelection parseIndexed answerSelectionRead noEffect s)

/-! ### Store-changing requests: the refusals of R1 in their order -/

/-- Retention is WRITING (R1, R21). -/
def busyItem (s : State) : Bool × ReplyCode := (s.retention.isSome, .busy)

/-- The mode is ENTERING or RUN (R1). -/
def notHoldItem (s : State) : Bool × ReplyCode := (decide (s.timebase.mode ≠ .hold), .wrongMode)

/-- WRITE_PLAN_HEAD: the refusals of R1. -/
def answerPlanHeadWrite (_t : Taken) (b : PlanHeadWrite) (s : State) : Answer :=
  verdict [(!(isPlan b.plan && planHeadInRange b.head), .badArgument),
           (inUse s b.plan, .inUse), busyItem s]

/-- Retention writes plan p's record. -/
def retainPlan (p : Nat) (record : Fin 24 → RetentionRecord) (s : State) : State :=
  if h : isPlan p = true then startRetention (record (planIndex p h)) s else s

/-- WRITE_PLAN_HEAD accepted (R10). -/
def effectPlanHeadWrite (_t : Taken) (b : PlanHeadWrite) (s : State) : State :=
  retainPlan b.plan .planHead
    (s.setStore (s.store.setPlan b.plan ((s.store.plan b.plan).withHead b.head)))

/-- WRITE_PLAN_HEAD (R10). -/
def execWritePlanHead (s : State) : Result :=
  .next (serve .writePlanHead parsePlanHeadWrite answerPlanHeadWrite effectPlanHeadWrite s)

/-- The four plan entries of a group write lie in their ranges (R11). -/
def planEntriesInRange (v : Vector PlanEntry 4) : Bool :=
  planEntryInRange v[0] && planEntryInRange v[1] && planEntryInRange v[2] && planEntryInRange v[3]

/-- WRITE_PLAN_GROUP: the refusals of R1. -/
def answerPlanGroupWrite (_t : Taken) (b : PlanGroupWrite) (s : State) : Answer :=
  verdict [(!(isPlan b.plan && decide (b.group ≤ 2) && planEntriesInRange b.entries), .badArgument),
           (inUse s b.plan, .inUse), busyItem s]

/-- WRITE_PLAN_GROUP accepted (R11). -/
def effectPlanGroupWrite (_t : Taken) (b : PlanGroupWrite) (s : State) : State :=
  retainPlan b.plan (fun p => .planGroup p (Fin.ofNat 3 b.group))
    (s.setStore (s.store.setPlan b.plan ((s.store.plan b.plan).withGroup b)))

/-- WRITE_PLAN_GROUP (R11). -/
def execWritePlanGroup (s : State) : Result :=
  .next (serve .writePlanGroup parsePlanGroupWrite answerPlanGroupWrite effectPlanGroupWrite s)

/-- ERASE_PLAN: the refusals of R1. -/
def answerErase (_t : Taken) (p : Nat) (s : State) : Answer :=
  verdict [(!isPlan p, .badArgument), (inUse s p, .inUse), busyItem s]

/-- ERASE_PLAN accepted (R13). -/
def effectErase (_t : Taken) (p : Nat) (s : State) : State :=
  retainPlan p (fun i => .planState i true) (s.setStore (s.store.setPlan p .erased))

/-- ERASE_PLAN (R13). -/
def execErasePlan (s : State) : Result := .next (serve .erasePlan parseOne answerErase effectErase s)

/-- The result of CHECK_PLAN: the fault with its junction index, then the geometry stamp (R159). -/
def checkPlanResult (s : State) (p : Nat) : List Byte :=
  (planFault s.store.geometry (s.store.plan p)).chars ++ char2 s.store.geometry.stamp

/-- CHECK_PLAN: the refusals of R1, otherwise OK with the result (R15). -/
def answerPlanCheck (_t : Taken) (p : Nat) (s : State) : Answer :=
  { code := firstRefusal [(!isPlan p, .badArgument),
      (decide ((s.store.plan p).state = .empty), .notReady), busyItem s],
    result := checkPlanResult s p }

/-- CHECK_PLAN accepted; a state write starts when the stored state changed (R15). -/
def effectPlanCheck (_t : Taken) (p : Nat) (s : State) : State :=
  let old := s.store.plan p
  let new := checkedPlan s.store.geometry old
  let s1 := s.setStore (s.store.setPlan p new)
  if new.state = old.state ∧ new.stamp = old.stamp ∧ new.fault = old.fault then s1
  else retainPlan p (fun i => .planState i false) s1

/-- CHECK_PLAN (R15). -/
def execCheckPlan (s : State) : Result :=
  .next (serve .checkPlan parseOne answerPlanCheck effectPlanCheck s)

/-- WRITE_GEOMETRY_HEAD: the refusals of R1. -/
def answerGeometryHeadWrite (_t : Taken) (h : GeometryHead) (s : State) : Answer :=
  verdict [notHoldItem s, (!geometryHeadInRange h, .badArgument), busyItem s]

/-- WRITE_GEOMETRY_HEAD accepted, with the effects of a change of N (R4, R97, R121, R139). -/
def effectGeometryHeadWrite (_t : Taken) (h : GeometryHead) (s : State) : State :=
  let s1 := s.setStore { s.store with geometry := s.store.geometry.withHead h }
  changeN (junctionCount s) (startRetention .geometryHead s1)

/-- WRITE_GEOMETRY_HEAD (R4). -/
def execWriteGeometryHead (s : State) : Result :=
  .next (serve .writeGeometryHead parseGeometryHead answerGeometryHeadWrite
    effectGeometryHeadWrite s)

/-- The four geometry entries of a group write lie in their ranges (R5). -/
def geometryEntriesInRange (v : Vector GeometryEntry 4) : Bool :=
  geometryEntryInRange v[0] && geometryEntryInRange v[1] && geometryEntryInRange v[2] &&
  geometryEntryInRange v[3]

/-- WRITE_GEOMETRY_GROUP: the refusals of R1. -/
def answerGeometryGroupWrite (_t : Taken) (b : GeometryGroupWrite) (s : State) : Answer :=
  verdict [notHoldItem s,
           (!(decide (b.group ≤ 2) && geometryEntriesInRange b.entries), .badArgument), busyItem s]

/-- WRITE_GEOMETRY_GROUP accepted (R5). -/
def effectGeometryGroupWrite (_t : Taken) (b : GeometryGroupWrite) (s : State) : State :=
  startRetention (.geometryGroup (Fin.ofNat 3 b.group))
    (s.setStore { s.store with geometry := s.store.geometry.withGroup b })

/-- WRITE_GEOMETRY_GROUP (R5). -/
def execWriteGeometryGroup (s : State) : Result :=
  .next (serve .writeGeometryGroup parseGeometryGroup answerGeometryGroupWrite
    effectGeometryGroupWrite s)

/-- The result of CHECK_GEOMETRY: the fault, then the stamp as it stands after the check (R159). -/
def checkGeometryResult (s : State) : List Byte :=
  char1 (geometryFault s.store.geometry).code :: char2 (checkedGeometry s.store.geometry).stamp

/-- CHECK_GEOMETRY: the refusals of R1, otherwise OK with the result (R7). -/
def answerGeometryCheck (_t : Taken) (_u : Unit) (s : State) : Answer :=
  { code := firstRefusal [notHoldItem s, busyItem s], result := checkGeometryResult s }

/-- CHECK_GEOMETRY accepted; a head write starts when the check changed something (R7). -/
def effectGeometryCheck (_t : Taken) (_u : Unit) (s : State) : State :=
  let new := checkedGeometry s.store.geometry
  let old := s.store.geometry
  let s1 := s.setStore { s.store with geometry := new }
  if new.state = old.state ∧ new.fault = old.fault ∧ new.stamp = old.stamp then s1
  else startRetention .geometryHead s1

/-- CHECK_GEOMETRY (R7). -/
def execCheckGeometry (s : State) : Result :=
  .next (serve .checkGeometry parseNone answerGeometryCheck effectGeometryCheck s)

/-- WRITE_SELECTION: the refusals of R1 and R18. -/
def answerSelectionWrite (_t : Taken) (b : SelectionWrite) (s : State) : Answer :=
  verdict [(!(decide (b.index ≤ 15) && selectionEntryInRange b.entry), .badArgument), busyItem s]

/-- WRITE_SELECTION accepted (R18). -/
def effectSelectionWrite (_t : Taken) (b : SelectionWrite) (s : State) : State :=
  if h : b.index < 16 then
    startRetention (.selectionEntry ⟨b.index, h⟩)
      (s.setStore { s.store with selection := s.store.selection.set b.index b.entry h })
  else s

/-- WRITE_SELECTION (R18). -/
def execWriteSelection (s : State) : Result :=
  .next (serve .writeSelection parseSelection answerSelectionWrite effectSelectionWrite s)

/-! ### Pins, hold and resets -/

/-- PIN_PLAN: the refusals of R106. -/
def answerPinPlan (_t : Taken) (p : Nat) (s : State) : Answer :=
  verdict [(decide (24 < p), .badArgument), (decide (s.timebase.mode = .entering), .wrongMode),
           (isPlan p && !ready s p, .notReady)]

/-- PIN_PLAN accepted (R106). -/
def effectPinPlan (_t : Taken) (p : Nat) (s : State) : State :=
  if p = 0 then clearCandidate (s.setSelector { s.selector with planPin := none })
  else applyPlanPin p (clearCandidate (s.setSelector { s.selector with planPin := some p }))

/-- PIN_PLAN (R106). -/
def execPinPlan (s : State) : Result := .next (serve .pinPlan parseOne answerPinPlan effectPinPlan s)

/-- PIN_BIAS: 0..100, or 255 for release (R108, R159). -/
def answerPinBias (_t : Taken) (v : Nat) (_s : State) : Answer :=
  verdict [(decide (100 < v) && decide (v ≠ 255), .badArgument)]

/-- PIN_BIAS accepted (R108, R109). -/
def effectPinBias (_t : Taken) (v : Nat) (s : State) : State :=
  if v = 255 then releaseBiasPin s else setBiasPin v s

/-- PIN_BIAS (R108). -/
def execPinBias (s : State) : Result := .next (serve .pinBias parseOne answerPinBias effectPinBias s)

/-- RELEASE_HOLD: the refusals of R53. -/
def answerRelease (_t : Taken) (p : Nat) (s : State) : Answer :=
  verdict [(!isPlan p, .badArgument), notHoldItem s, (!ready s p, .notReady)]

/-- RELEASE_HOLD accepted (R53). -/
def effectRelease (_t : Taken) (p : Nat) (s : State) : State := enterEntering p s

/-- RELEASE_HOLD (R53). -/
def execReleaseHold (s : State) : Result :=
  .next (serve .releaseHold parseOne answerRelease effectRelease s)

/-- ENTER_HOLD: WRONG_MODE in HOLD (R56). -/
def answerEnterHold (_t : Taken) (_u : Unit) (s : State) : Answer :=
  verdict [(decide (s.timebase.mode = .hold), .wrongMode)]

/-- ENTER_HOLD accepted (R56). -/
def effectEnterHold (_t : Taken) (_u : Unit) (s : State) : State := holdEffects s

/-- ENTER_HOLD (R56). -/
def execEnterHold (s : State) : Result :=
  .next (serve .enterHold parseNone answerEnterHold effectEnterHold s)

/-- RESET_UNIT: accepted in every mode; an option above 1 has been refused by the payload check (R166,
R172). -/
def answerResetUnit (_t : Taken) (_relatch : Bool) (_s : State) : Answer := refuse .ok

/-- RESET_UNIT accepted: the handler takes no further frame (R172). -/
def effectResetUnit (_t : Taken) (relatch : Bool) (s : State) : State :=
  s.setHandler { s.handler with reset := some { relatch, replyDone := false } }

/-- RESET_UNIT (R172). -/
def execResetUnit (s : State) : Result :=
  .next (serve .resetUnit parseOption answerResetUnit effectResetUnit s)

/-- RESET_ENGINE: accepted in every mode (R173). -/
def answerResetEngine (_t : Taken) (_u : Unit) (_s : State) : Answer := refuse .ok

/-- RESET_ENGINE accepted (R173). -/
def effectResetEngine (_t : Taken) (_u : Unit) (s : State) : State := engineReset s

/-- RESET_ENGINE (R173). -/
def execResetEngine (s : State) : Result :=
  .next (serve .resetEngine parseNone answerResetEngine effectResetEngine s)

/-- UNKNOWN_KIND: a taken frame whose kind is no request kind (R166). -/
def execUnknownKind (s : State) : Result := .next (serveUnknown s)

end Sys2Proof.Machine
end

