-- ==== Sys2Proof/Machine/Dispatch.lean ====
section
/-! DEFINITION. One arm per command, each a direct call of its meaning. -/

namespace Sys2Proof.Machine

open Sys2Proof

def exec (i : Instr) (s : State) : Host.Outcome State Fault Refusal :=
  match i with
  | .report => Sys2Proof.Machine.execReport s
  | .priorityCall => Sys2Proof.Machine.execPriorityCall s
  | .priorityCancel => Sys2Proof.Machine.execPriorityCancel s
  | .readStatus => Sys2Proof.Machine.execReadStatus s
  | .readJunction => Sys2Proof.Machine.execReadJunction s
  | .readBand => Sys2Proof.Machine.execReadBand s
  | .readPlanHead => Sys2Proof.Machine.execReadPlanHead s
  | .readPlanGroup => Sys2Proof.Machine.execReadPlanGroup s
  | .writePlanHead => Sys2Proof.Machine.execWritePlanHead s
  | .writePlanGroup => Sys2Proof.Machine.execWritePlanGroup s
  | .erasePlan => Sys2Proof.Machine.execErasePlan s
  | .checkPlan => Sys2Proof.Machine.execCheckPlan s
  | .readGeometryHead => Sys2Proof.Machine.execReadGeometryHead s
  | .readGeometryGroup => Sys2Proof.Machine.execReadGeometryGroup s
  | .writeGeometryHead => Sys2Proof.Machine.execWriteGeometryHead s
  | .writeGeometryGroup => Sys2Proof.Machine.execWriteGeometryGroup s
  | .checkGeometry => Sys2Proof.Machine.execCheckGeometry s
  | .readSelection => Sys2Proof.Machine.execReadSelection s
  | .writeSelection => Sys2Proof.Machine.execWriteSelection s
  | .pinPlan => Sys2Proof.Machine.execPinPlan s
  | .pinBias => Sys2Proof.Machine.execPinBias s
  | .releaseHold => Sys2Proof.Machine.execReleaseHold s
  | .enterHold => Sys2Proof.Machine.execEnterHold s
  | .resetUnit => Sys2Proof.Machine.execResetUnit s
  | .resetEngine => Sys2Proof.Machine.execResetEngine s
  | .unknownKind => Sys2Proof.Machine.execUnknownKind s
  | .resetNAssert => Sys2Proof.Machine.execResetNAssert s
  | .hardwareReset pins => Sys2Proof.Machine.execHardwareReset pins s
  | .resetUnitTakesEffect pins => Sys2Proof.Machine.execResetUnitTakesEffect pins s
  | .cycleBoundary => Sys2Proof.Machine.execCycleBoundary s
  | .localZero j => Sys2Proof.Machine.execLocalZero j s
  | .windowClose j => Sys2Proof.Machine.execWindowClose j s
  | .beatDue => Sys2Proof.Machine.execBeatDue s
  | .evaluation => Sys2Proof.Machine.execEvaluation s
  | .pinLapse => Sys2Proof.Machine.execPinLapse s
  | .periodEnd => Sys2Proof.Machine.execPeriodEnd s
  | .priorityExpiry j tag => Sys2Proof.Machine.execPriorityExpiry j tag s
  | .retentionComplete => Sys2Proof.Machine.execRetentionComplete s
  | .computationComplete => Sys2Proof.Machine.execComputationComplete s
  | .lineBusy => Sys2Proof.Machine.execLineBusy s
  | .lineFree partialRx => Sys2Proof.Machine.execLineFree partialRx s
  | .lineFault => Sys2Proof.Machine.execLineFault s
  | .frameComplete => Sys2Proof.Machine.execFrameComplete s
  | .arbitrationLoss => Sys2Proof.Machine.execArbitrationLoss s
  | .lineFrameReceived chars => Sys2Proof.Machine.execLineFrameReceived chars s
  | .centreFrameReceived chars => Sys2Proof.Machine.execCentreFrameReceived chars s
  | .centreFrameComplete => Sys2Proof.Machine.execCentreFrameComplete s
  | .decisecondTick => Sys2Proof.Machine.execDecisecondTick s
  | .lineFrameDiscarded fault chars => Sys2Proof.Machine.execLineFrameDiscarded fault chars s
  | .centreFrameDiscarded fault chars => Sys2Proof.Machine.execCentreFrameDiscarded fault chars s

end Sys2Proof.Machine
end

