-- ==== Sys2Proof/Safety.lean ====
section
/-! DEFINITION. The terms in which claims about the unit are stated: what a port holds, what it means that
a request was answered and a notice queued, and the invariants of a safe run, each from the rules that
give the ranges and relations of the state. -/

namespace Sys2Proof.Machine

open Sys2Proof

/-! ### What the ports hold -/

/-- The reply or OUTCOME frame in flight, if there is one. -/
def flightReplies (l : Line) : List ReplyItem :=
  match l.inFlight.map InFlight.item with
  | some (.queued item) => [item]
  | _ => []

/-- The sequence value of the beat in flight, if there is one. -/
def flightBeats (l : Line) : List Nat :=
  match l.inFlight.map InFlight.item with
  | some (.beat seq) => [seq]
  | _ => []

/-- The steer in flight, if there is one. -/
def flightSteers (l : Line) : List Steer :=
  match l.inFlight.map InFlight.item with
  | some (.steer st) => [st]
  | _ => []

/-- The replies and OUTCOME frames of the Line Port, the one in flight first (R154). -/
def lineReplies (l : Line) : List ReplyItem := flightReplies l ++ l.replies.map WaitingReply.item

/-- The sequence values of the beats that the Line Port holds, the one in flight first. -/
def lineBeats (l : Line) : List Nat := flightBeats l ++ (l.beat.map WaitingBeat.seq).toList

/-- The steers that the Line Port holds, the one in flight first. -/
def lineSteers (l : Line) : List Steer := flightSteers l ++ l.steers.map WaitingSteer.steer

/-- The reply that the centre transmitter sends, if it sends one. -/
def CentreSending.replySent : CentreSending → Option Reply
  | .reply r _ => some r
  | .notice _ _ => none

/-- The notice that the centre transmitter sends, if it sends one. -/
def CentreSending.noticeSent : CentreSending → Option Notice
  | .reply _ _ => none
  | .notice n _ => some n

/-- The replies of the Centre Port, the one in flight first (R163). -/
def centreReplies (c : Centre) : List Reply :=
  (c.sending.bind CentreSending.replySent).toList ++ c.replies

/-- The notices of the Centre Port, the one in flight first (R163). -/
def centreNotices (c : Centre) : List Notice :=
  (c.sending.bind CentreSending.noticeSent).toList ++ c.notices

/-- The frames that count as replies on a port, oldest first. -/
def queuedReplies (s : State) : Port → List ReplyItem
  | .line => lineReplies s.line
  | .centre => (centreReplies s.centre).map ReplyItem.reply

/-- The receive queue of a port. -/
def receiveQueue (s : State) : Port → List Frame
  | .line => s.line.rx
  | .centre => s.centre.rx

/-- The port that is not the given one. -/
def Port.other : Port → Port
  | .line => .centre
  | .centre => .line

/-! ### Requests -/

/-- The command in which the handler serves a frame of a kind; none is no request kind. -/
def commandOf : Option RequestKind → Instr
  | some .report => .report
  | some .priorityCall => .priorityCall
  | some .priorityCancel => .priorityCancel
  | some .readStatus => .readStatus
  | some .readJunction => .readJunction
  | some .readBand => .readBand
  | some .readPlanHead => .readPlanHead
  | some .writePlanHead => .writePlanHead
  | some .readPlanGroup => .readPlanGroup
  | some .writePlanGroup => .writePlanGroup
  | some .erasePlan => .erasePlan
  | some .checkPlan => .checkPlan
  | some .readGeometryHead => .readGeometryHead
  | some .writeGeometryHead => .writeGeometryHead
  | some .readGeometryGroup => .readGeometryGroup
  | some .writeGeometryGroup => .writeGeometryGroup
  | some .checkGeometry => .checkGeometry
  | some .readSelection => .readSelection
  | some .writeSelection => .writeSelection
  | some .pinPlan => .pinPlan
  | some .pinBias => .pinBias
  | some .releaseHold => .releaseHold
  | some .enterHold => .enterHold
  | some .resetUnit => .resetUnit
  | some .resetEngine => .resetEngine
  | none => .unknownKind

/-- The next frame that the handler takes is `t`, and it carries the request `r` from a sender that has
the right to make it. -/
def Admits (s : State) (t : Taken) (r : Request) : Prop :=
  nextFrame s = some t ∧ kindOf t.frame.kind = some r.kind ∧ hasRight r.kind t = true ∧
  parseRequest r.kind t.frame.payload = some r

/-- The reply to a taken frame (R163, R166). -/
def replyTo (t : Taken) (code : ReplyCode) (result : List Byte) : ReplyItem :=
  .reply { dest := addressOf t.frame.src, seq := t.frame.seq, code, result }

/-- Between `s` and `u` the handler took the frame `t` from its port, and the pointer names that port
(R165). -/
def FrameTaken (s u : State) (t : Taken) : Prop :=
  u.handler.served = t.port ∧
  receiveQueue u t.port = (receiveQueue s t.port).drop 1 ∧
  receiveQueue u t.port.other = receiveQueue s t.port.other

/-- Between `s` and `u` the taken frame was answered with one reply on its port, and no port was given
any other reply or OUTCOME frame (R166). -/
def Replied (s u : State) (t : Taken) (code : ReplyCode) (result : List Byte) : Prop :=
  FrameTaken s u t ∧
  queuedReplies u t.port = queuedReplies s t.port ++ [replyTo t code result] ∧
  queuedReplies u t.port.other = queuedReplies s t.port.other

/-- The credits of the Line Port stay, or are refilled to 3 and 1 by the choice of a frame (R155). -/
def CreditsKept (s u : State) : Prop :=
  (u.line.steerCredit = s.line.steerCredit ∧ u.line.replyCredit = s.line.replyCredit) ∨
  (u.line.steerCredit = 3 ∧ u.line.replyCredit = 1)

/-- Between `s` and `u` the Line Port changed in its receive queue and its replies at most: line state,
counters, beats and steers stay (a waiting frame may have started), and so do the credits but for a
refill. -/
def LineQuiet (s u : State) : Prop :=
  u.line.state = s.line.state ∧ u.line.errors = s.line.errors ∧
  u.line.arbitrationDrops = s.line.arbitrationDrops ∧ u.line.missedBeats = s.line.missedBeats ∧
  lineBeats u.line = lineBeats s.line ∧ lineSteers u.line = lineSteers s.line ∧ CreditsKept s u

/-- Between `s` and `u` the Centre Port counted no fault and queued no notice. -/
def CentreQuiet (s u : State) : Prop :=
  u.centre.errors = s.centre.errors ∧ u.centre.noticeSeq = s.centre.noticeSeq ∧
  centreNotices u.centre = centreNotices s.centre

/-- Both ports are quiet but for the frame taken and its reply, and no RESET_UNIT came in or took
effect. -/
def PortsQuiet (s u : State) : Prop :=
  LineQuiet s u ∧ CentreQuiet s u ∧ u.handler.reset = s.handler.reset

/-- Nothing but the ports and the handler's pointer changed between `s` and `u`, and the ports are quiet. -/
def OnlyPorts (s u : State) : Prop :=
  u = { s with line := u.line, centre := u.centre, handler := u.handler } ∧ PortsQuiet s u

/-- The taken frame was refused with a code and changed nothing else. -/
def Refused (s u : State) (t : Taken) (code : ReplyCode) : Prop :=
  Replied s u t code [] ∧ OnlyPorts s u

/-- A command answered a read of a result with its page, or with BAD_ARGUMENT where the read is out of
range or the page lies beyond the last, and changed nothing else. -/
def ReadServed (c : Instr) (s : State) (t : Taken) (inRange : Prop) (result : List Byte)
    (page : Nat) : Prop :=
  ∃ u, exec c s = .next u ∧ OnlyPorts s u ∧
    (∀ chars, inRange → pageOf result page = some chars → Replied s u t .ok chars) ∧
    (¬ inRange ∨ pageOf result page = none → Replied s u t .badArgument [])

/-- The command answers the taken frame with a refusal and changes nothing else. -/
def RefusedWith (c : Instr) (s : State) (t : Taken) (code : ReplyCode) : Prop :=
  ∃ u, exec c s = .next u ∧ Refused s u t code

/-! ### Notices (R163) -/

/-- Notices with the sequence values that follow `seq`: each one higher, 255 followed by 0. -/
def numbered (seq : Nat) : List NoticeBody → List Notice
  | [] => []
  | body :: rest => { seq := (seq + 1) % 256, body } :: numbered ((seq + 1) % 256) rest

/-- The notice sequence once `n` more notices have been queued. -/
def seqAfter (seq : Nat) : Nat → Nat
  | 0 => seq
  | n + 1 => seqAfter ((seq + 1) % 256) n

/-- Between `s` and `u` exactly these notices were queued behind those of `s`, in this order: the sequence
has moved on by their number, the newest 16 of all are held at the end, and all are held when there is
room for all. -/
def NoticesQueued (s u : State) (bodies : List NoticeBody) : Prop :=
  u.centre.noticeSeq = seqAfter s.centre.noticeSeq bodies.length ∧
  (centreNotices s.centre ++ numbered s.centre.noticeSeq bodies).reverse.take Config.noticePlaces <+:
    (centreNotices u.centre).reverse ∧
  ((centreNotices s.centre).length + bodies.length ≤ Config.noticePlaces →
    centreNotices u.centre = centreNotices s.centre ++ numbered s.centre.noticeSeq bodies)

/-! ### Outcomes (R131, R136) -/

/-- The OUTCOME frame of an entry whose source is a station (R131). -/
def outcomeFrame (o : CallOutcome) (e : PriorityEntry) : Option ReplyItem :=
  match e.source with
  | .centre => none
  | .station address =>
    some (.outcome { dest := address, junction := e.junction, direction := e.direction, tag := e.tag,
                     outcome := o })

/-- The OUTCOME frames of entries that leave together, in list order, as far as a REPLY queue that holds
`queued` frames has places (R131, R136, R154). -/
def outcomesPlaced (o : CallOutcome) (es : List PriorityEntry) (queued : Nat) : List ReplyItem :=
  (es.filterMap (outcomeFrame o)).take (Config.lineReplyPlaces - queued)

/-- The notices of entries that leave together, in list order, from a REPLY queue that holds `queued`
frames: each says whether its OUTCOME frame found a place (R131, R136). -/
def outcomeNotices (o : CallOutcome) : List PriorityEntry → Nat → List NoticeBody
  | [], _ => []
  | e :: rest, queued =>
    let placed := (outcomeFrame o e).isSome && decide (queued < Config.lineReplyPlaces)
    .priorityOutcome e.junction e.direction e.tag o e.source placed ::
      outcomeNotices o rest (queued + placed.toNat)

/-! ### What an accepted request and an event leave alone -/

/-- No event is half taken: no recompute cause waits for its arrival (R28; the model's own flag). -/
def AtRest (s : State) : Prop := s.causeRaised = false

/-- An accepted request with its result: one reply OK, and the ports quiet. -/
def Accepted (s u : State) (t : Taken) (result : List Byte) : Prop :=
  Replied s u t .ok result ∧ PortsQuiet s u

/-- An accepted request that gives the store and the retention record new values and changes nothing
else but the ports (R1, R20). -/
def StoreChanged (c : Instr) (s : State) (t : Taken) (result : List Byte) (store : Store)
    (writing : Option RetentionRecord) : Prop :=
  ∃ u, exec c s = .next u ∧ Accepted s u t result ∧
    u = { s with store, retention := writing, line := u.line, centre := u.centre,
                 handler := u.handler }

/-- The Line Port kept its line state, its error counters, its drops, and its credits but for a
refill. -/
def LineKept (s u : State) : Prop :=
  u.line.state = s.line.state ∧ u.line.errors = s.line.errors ∧
  u.line.arbitrationDrops = s.line.arbitrationDrops ∧ CreditsKept s u

/-- The taken frame was answered OK without a result, and these OUTCOME frames followed on the line
(R126, R131). -/
def RepliedThen (s u : State) (t : Taken) (outcomes : List ReplyItem) : Prop :=
  FrameTaken s u t ∧
  queuedReplies u .line =
    queuedReplies s .line ++ (if t.port = .line then [replyTo t .ok []] else []) ++ outcomes ∧
  queuedReplies u .centre =
    queuedReplies s .centre ++ (if t.port = .centre then [replyTo t .ok []] else [])

/-- The frames that the REPLY queue holds once the reply to the taken frame is in it. -/
def queuedWithReply (s : State) (t : Taken) : Nat :=
  lineReplyCount s.line + (if t.port = .line then 1 else 0)

/-- The Centre Port counted no fault and was given these notices. -/
def CentreNoticed (s u : State) (bodies : List NoticeBody) : Prop :=
  u.centre.errors = s.centre.errors ∧ NoticesQueued s u bodies

/-- An event took no frame from a port and gave neither a reply. -/
def NothingServed (s u : State) : Prop :=
  u.handler = s.handler ∧ u.line.rx = s.line.rx ∧ u.centre.rx = s.centre.rx ∧
  centreReplies u.centre = centreReplies s.centre

/-- An event left the Line Port's queues as they are but for steers, which it may have added. -/
def OnlySteersQueued (s u : State) : Prop :=
  LineKept s u ∧ u.line.rx = s.line.rx ∧ u.line.missedBeats = s.line.missedBeats ∧
  lineBeats u.line = lineBeats s.line ∧ lineReplies u.line = lineReplies s.line

/-- An event placed this steer and no other (R154): it takes the place of a waiting steer for its junction,
the steers for other junctions stay, and otherwise it goes to the end. The exact queue is asked for where
no steer waits that could have started before (R155), which LineGoes says of every run. -/
def SteerQueued (s u : State) (st : Steer) : Prop :=
  st ∈ lineSteers u.line ∧
  (s.line.inFlight ≠ none ∨ s.line.state ≠ .free ∨ s.line.steers = [] →
    lineSteers u.line = flightSteers s.line ++ (placeSteer st s.line.steers).map WaitingSteer.steer)

/-- The event emptied the STEER queue under the frame in flight (R161): a steer in flight is marked, so that
it is not returned when it loses; a beat, a reply or an OUTCOME frame in flight is left as it is, and a
frame that the event itself started is not marked. -/
def FlightMarked (s u : State) : Prop :=
  (∀ f, s.line.inFlight = some f →
    (∀ st, f.item = .steer st → u.line.inFlight = some { f with orphaned := true }) ∧
    ((∀ st, f.item ≠ .steer st) → u.line.inFlight = some f)) ∧
  (s.line.inFlight = none → ∀ f, u.line.inFlight = some f → f.orphaned = false)

/-- The state with the record of junction j replaced. -/
def withCycle (s : State) (j : Junction) (r : LocalCycle) : Vector LocalCycle 12 :=
  s.cycles.set j.val r j.isLt

/-! ### Recompute causes (R28 to R31) -/

/-- The engine after the recompute causes of an event that ends in `u` have arrived as one (R28, R30). -/
def CauseArrived (s u : State) : Prop :=
  match u.timebase.mode with
  | .hold => u.engine = s.engine
  | _ =>
    match s.engine.computing with
    | some _ => u.engine = { s.engine with again := true }
    | none => ∃ p role, computingRole u = some (p, role) ∧
        u.engine = { s.engine with computing := some (takeSnapshot u p role), again := false,
                                   void := false }

/-- The causes of an event have arrived if it raised one, and otherwise the engine is as it was. -/
def CauseArrivedIf (raised : Prop) (s u : State) : Prop :=
  (raised → CauseArrived s u) ∧ (¬ raised → u.engine = s.engine)

/-- The engine after an event that ends in `u` has set, replaced or cleared the pending plan in RUN: the
pending set is empty, and a computation in flight is marked for discard with one more owed, or one
starts for the plan now computed (R30, R45, R47). -/
def PendingChanged (s u : State) : Prop :=
  match s.engine.computing with
  | some _ => u.engine = { s.engine with again := true, void := true, pendingSet := none }
  | none => ∃ p role, computingRole u = some (p, role) ∧
      u.engine = { s.engine with computing := some (takeSnapshot u p role), again := false,
                                 void := false, pendingSet := none }

/-! ### The Plan Store: ranges and tests, written out from their tables -/

/-- The number is that of a plan (R1). -/
def PlanNumber (p : Nat) : Prop := 1 ≤ p ∧ p ≤ 24

/-- The Timebase names the plan (R12). -/
def PlanInUse (s : State) (p : Nat) : Prop :=
  s.timebase.active = p ∨ s.timebase.pendingPlan = p ∨
  (s.timebase.mode = .entering ∧ s.timebase.entry = p)

/-- Plan p + 1 is READY (R17). -/
def PlanReady (s : State) (p : Fin 24) : Prop :=
  s.store.plans[p].state = .checked ∧ s.store.geometry.state = .valid ∧
  s.store.plans[p].stamp = s.store.geometry.stamp

/-- The ranges of a plan's head fields (R9). -/
def PlanHeadRanges (h : PlanHead) : Prop :=
  400 ≤ h.c ∧ h.c ≤ 2400 ∧ h.p ≤ 2399 ∧ h.anchor ≤ 11 ∧ 20 ≤ h.vIn ∧ h.vIn ≤ 80 ∧
  20 ≤ h.vOut ∧ h.vOut ≤ 80 ∧ h.biasNominal ≤ 100 ∧ h.biasMin ≤ 100 ∧ h.biasMax ≤ 100 ∧
  50 ≤ h.gMin ∧ h.gMin ≤ 300 ∧ 50 ≤ h.sMin ∧ h.sMin ≤ 600 ∧ h.dwellPct ≤ 50 ∧
  h.shortPct ≤ 30 ∧ h.eMax ≤ 200 ∧ h.xMax ≤ 200 ∧ h.lockout ≤ 7 ∧ 30 ≤ h.gatePct ∧
  h.gatePct ≤ 100

/-- The ranges of a plan's junction entry (R9). -/
def PlanEntryRanges (e : PlanEntry) : Prop := e.share ≤ 1000 ∧ -600 ≤ e.trim ∧ e.trim ≤ 600

/-- The ranges of the writable geometry head fields (R3). -/
def GeometryHeadRanges (h : GeometryHead) : Prop :=
  2 ≤ h.n ∧ h.n ≤ 12 ∧ 10 ≤ h.reportPeriod ∧ h.reportPeriod ≤ 120 ∧
  3 ≤ h.downgradeLimit ∧ h.downgradeLimit ≤ 15 ∧
  h.u1 ≤ 1000 ∧ h.u2 ≤ 1000 ∧ h.u3 ≤ 1000 ∧ h.d1 ≤ 1000 ∧ h.d2 ≤ 1000 ∧ h.d3 ≤ 1000 ∧
  h.startPlan ≤ 24 ∧ 60 ≤ h.selectionInterval ∧ h.selectionInterval ≤ 900 ∧ h.pinLapse ≤ 120 ∧
  10 ≤ h.priorityExpiry ∧ h.priorityExpiry ≤ 120 ∧ 1 ≤ h.holdOff ∧ h.holdOff ≤ 8

/-- The ranges of a geometry junction entry (R3). -/
def GeometryEntryRanges (e : GeometryEntry) : Prop :=
  1 ≤ e.address ∧ e.address ≤ 15 ∧ e.position ≤ 12000

/-- What WRITE_SELECTION accepts in an entry (R18). -/
def SelectionEntryRanges (e : SelectionEntry) : Prop :=
  e.plan ≤ 24 ∧ e.low ≤ 1000 ∧ e.high ≤ 1000 ∧ 1 ≤ e.persistence ∧ e.persistence ≤ 15 ∧
  e.low ≤ e.high ∧ ¬(e.valid = true ∧ e.plan = 0)

/-- The store with plan p + 1 replaced. -/
def Store.putPlan (st : Store) (p : Fin 24) (r : PlanRecord) : Store :=
  { st with plans := st.plans.set p.val r p.isLt }

/-- `new` is `old` with the entries of a group (0..2) replaced by `four`. -/
def GroupReplaced {α : Type} (old new : Vector α 12) (g : Nat) (four : Vector α 4) : Prop :=
  ∀ j : Fin 12, new[j] = if j.val / 4 = g then four[Fin.ofNat 4 j.val] else old[j]

/-- Junction j is windowed under the plan, and its window with S_min does not fit in C (R15, SIDE_TIME). -/
def SideTimeShort (r : PlanRecord) (j : Nat) : Prop :=
  r.shareOf j ≠ 0 ∧ r.shareOf j ≠ 1000 ∧
  r.head.c < max r.head.gMin ((r.head.c * r.shareOf j + 500) / 1000) + r.head.sMin

/-- The first five conditions of R15, as what fails. -/
def PlanFails (g : Geometry) (r : PlanRecord) : PlanFault → Prop
  | .noGeometry => g.state ≠ .valid
  | .offsetRange => r.head.c ≤ r.head.p
  | .anchorRange => g.head.n ≤ r.head.anchor
  | .biasOrder => ¬(r.head.biasMin ≤ r.head.biasNominal ∧ r.head.biasNominal ≤ r.head.biasMax)
  | .greenSide => r.head.c < r.head.gMin + r.head.sMin
  | .sideTime j => j < g.head.n ∧ SideTimeShort r j ∧ ∀ i, i < j → ¬ SideTimeShort r i
  | .noBand => ¬ ∃ i j, i < j ∧ j < g.head.n ∧ 0 < r.shareOf i ∧ 0 < r.shareOf j
  | .none => False
  | .torn => False

/-- The order of the plan check (R15). -/
def PlanFault.order : PlanFault → Nat
  | .noGeometry => 1 | .offsetRange => 2 | .anchorRange => 3 | .biasOrder => 4 | .greenSide => 5
  | .sideTime _ => 6 | .noBand => 7 | .none => 8 | .torn => 9

/-- The result of the plan check: the first condition of R15 that fails, or none when none fails. -/
def PlanVerdict (g : Geometry) (r : PlanRecord) (f : PlanFault) : Prop :=
  (f = .none ∨ PlanFails g r f) ∧ ∀ f' : PlanFault, f'.order < f.order → ¬ PlanFails g r f'

/-- The conditions of R7, as what fails. -/
def GeometryFails (g : Geometry) : GeometryFault → Prop
  | .addressClash => ∃ i j : Junction, i.val < j.val ∧ j.val < g.head.n ∧
      g.entries[i].address = g.entries[j].address
  | .positionOrder => g.entries[0].position ≠ 0 ∨
      ∃ i j : Junction, j.val = i.val + 1 ∧ j.val < g.head.n ∧
        g.entries[j].position ≤ g.entries[i].position
  | .linkShort => ∃ i j : Junction, j.val = i.val + 1 ∧ j.val < g.head.n ∧
      g.entries[j].position < g.entries[i].position + 50
  | .thresholdOrder => ¬(g.head.u1 < g.head.u2 ∧ g.head.u2 < g.head.u3 ∧ g.head.d1 < g.head.d2 ∧
      g.head.d2 < g.head.d3 ∧ g.head.d1 < g.head.u1 ∧ g.head.d2 < g.head.u2 ∧
      g.head.d3 < g.head.u3)
  | .none => False
  | .torn => False

/-- The order of the geometry check (R7). -/
def GeometryFault.order : GeometryFault → Nat
  | .addressClash => 1 | .positionOrder => 2 | .linkShort => 3 | .thresholdOrder => 4
  | .none => 5 | .torn => 6

/-- The result of the geometry check: the first condition of R7 that fails, or none. -/
def GeometryVerdict (g : Geometry) (f : GeometryFault) : Prop :=
  (f = .none ∨ GeometryFails g f) ∧
  ∀ f' : GeometryFault, f'.order < f.order → ¬ GeometryFails g f'

/-! ### Demand, spill and selection, written out from their tables -/

/-- One level step under a smoothed value (R95). -/
def LevelMoved (h : GeometryHead) (old v new : Nat) : Prop :=
  (old < 3 ∧ riseThreshold h (old + 1) ≤ v ∧ new = old + 1) ∨
  (¬(old < 3 ∧ riseThreshold h (old + 1) ≤ v) ∧ 0 < old ∧ v < fallThreshold h old ∧
    new = old - 1) ∨
  (¬(old < 3 ∧ riseThreshold h (old + 1) ≤ v) ∧ ¬(0 < old ∧ v < fallThreshold h old) ∧ new = old)

/-- One step of a spill state under its exit flag and the hold-off (R114). -/
def SpillMoved (holdOff : Nat) (old : Spill) (flag : Bool) (new : Spill) : Prop :=
  (flag = true → new = { isSet := true, run := 0 }) ∧
  (flag = false → old.isSet = false → new = old) ∧
  (flag = false → old.isSet = true → holdOff ≤ old.run + 1 → new = { isSet := false, run := 0 }) ∧
  (flag = false → old.isSet = true → old.run + 1 < holdOff →
    new = { isSet := true, run := old.run + 1 })

/-- The notice of a changed spill state, if it changed (R116). -/
def spillNotice (d : Direction) (k : LinkIndex) (old new : Spill) (j : Nat) (reason : SpillReason) :
    List NoticeBody :=
  if old.isSet = new.isSet then [] else [.spillback d k new.isSet j reason]

/-- A selection entry matches (R103). -/
def EntryMatches (s : State) (e : SelectionEntry) : Prop :=
  e.valid = true ∧ (∃ p : Fin 24, e.plan = p.val + 1 ∧ PlanReady s p) ∧
  e.low ≤ totalDemand s ∧ totalDemand s ≤ e.high ∧
  (e.dominance = .any ∨ e.dominance = dominanceNow s)

/-- The match of an evaluation: the first entry that matches, in index order (R103). -/
def FirstMatch (s : State) (e : SelectionEntry) : Prop :=
  ∃ i : Fin 16, s.store.selection[i] = e ∧ EntryMatches s e ∧
    ∀ k : Fin 16, k.val < i.val → ¬ EntryMatches s s.store.selection[k]

/-- What an evaluation of junction j asks of the junction before it grants anything (R127), with no local
zero of the ds still to be taken. -/
def MayGrant (s : State) (j : Junction) : Prop :=
  s.timebase.mode = .run ∧ s.cycles[j].seek = .inStep ∧ s.cycles[j].lockout = 0 ∧
  gatedNow s j = false ∧ s.cycles[j].gate = false ∧ s.roster.junctions[j].following = true ∧
  s.cycles[j].actionTaken = false ∧ s.due.localZero[j] = false

/-- What the record of junction j and the head of its plan decide for a listed entry (R128). -/
def decisionFor (s : State) (j : Junction) (e : PriorityEntry) : Decision :=
  decideEntry (s.store.plan s.cycles[j].plan).head s.cycles[j] (timeAhead s.priority.clock e.due)

/-- The outcome with which an entry leaves the list under a decision, if it does (R127). -/
def Decision.granted : Decision → Option CallOutcome
  | .serve => some (.granted .none 0)
  | .extend x => some (.granted .extend x)
  | .early a => some (.granted .early a)
  | .wait => none

/-- The decision lets the evaluation go on to the next entry: all but EXTEND and EARLY (R127). -/
def Decision.goesOn : Decision → Bool
  | .serve | .wait => true
  | .extend _ | .early _ => false

/-- The entries that an evaluation of junction j takes: those of j in list order, up to and with the first
one that is granted EXTEND or EARLY (R127). -/
def entriesTaken (s : State) (j : Junction) : List PriorityEntry :=
  let waiting := s.priority.list.filter fun e => decide (e.junction = j)
  waiting.takeWhile (fun e => (decisionFor s j e).goesOn) ++
    (waiting.dropWhile fun e => (decisionFor s j e).goesOn).take 1

/-- The entries that an evaluation of junction j grants, each with its outcome, in list order (R127). -/
def grantsMade (s : State) (j : Junction) : List (PriorityEntry × CallOutcome) :=
  (entriesTaken s j).filterMap fun e => ((decisionFor s j e).granted).map fun o => (e, o)

/-- The OUTCOME frames of entries that leave each with its own outcome, as far as a REPLY queue that holds
`queued` frames has places (R131, R154). -/
def grantFrames (grants : List (PriorityEntry × CallOutcome)) (queued : Nat) : List ReplyItem :=
  (grants.filterMap fun g => outcomeFrame g.2 g.1).take (Config.lineReplyPlaces - queued)

/-- The notices of entries that leave each with its own outcome, from a REPLY queue that holds `queued`
frames (R131). -/
def grantNotices : List (PriorityEntry × CallOutcome) → Nat → List NoticeBody
  | [], _ => []
  | g :: rest, queued =>
    outcomeNotices g.2 [g.1] queued ++
      grantNotices rest (queued + (outcomesPlaced g.2 [g.1] queued).length)

/-- The junctions that a period end finds LOST for the first time (R141): in 0..N-1, not LOST or ABSENT
before, with the misses after it at or above the downgrade limit. -/
def EntersLost (s : State) (j : Junction) : Prop :=
  j.val < junctionCount s ∧ s.roster.junctions[j].state ≠ .lost ∧
  s.roster.junctions[j].state ≠ .absent ∧
  s.store.geometry.head.downgradeLimit ≤
    if s.roster.junctions[j].reports = 0 then min 15 (s.roster.junctions[j].misses + 1)
    else s.roster.junctions[j].misses

/-- The notices of one junction that enters LOST between `s` and `u`, from a REPLY queue that holds
`queued` frames, in the order of R145: its two link-directions, its entries, its state. The order is the
model's choice (log 9). -/
def lossNotices (s u : State) (j : Junction) (queued : Nat) : List NoticeBody :=
  ((allLinks.filter fun k => decide (k.val = j.val)).flatMap fun k =>
    spillNotice .inbound k s.gate.inbound[k] u.gate.inbound[k] j.val .lost) ++
  ((allLinks.filter fun k => decide (k.val + 1 = j.val)).flatMap fun k =>
    spillNotice .outbound k s.gate.outbound[k] u.gate.outbound[k] j.val .lost) ++
  outcomeNotices (.dropped .lost) (s.priority.list.filter fun e => decide (e.junction = j)) queued ++
  [.junctionState j s.store.geometry.entries[j].address s.roster.junctions[j].state .lost
    (if s.roster.junctions[j].reports = 0 then min 15 (s.roster.junctions[j].misses + 1)
      else s.roster.junctions[j].misses)]

/-- The notices of the junctions that enter LOST at one period end, junction after junction. -/
def lossesNotices (s u : State) : List Junction → Nat → List NoticeBody
  | [], _ => []
  | j :: rest, queued =>
    let dropped := s.priority.list.filter fun e => decide (e.junction = j)
    lossNotices s u j queued ++
      lossesNotices s u rest (queued + (outcomesPlaced (.dropped .lost) dropped queued).length)

/-! ### Reception (R152) -/

/-- The characters are a beginning of the frame that the unit itself is sending (R152). -/
def OwnFrame (s : State) (chars : List Byte) : Prop :=
  ∃ f, s.line.inFlight = some f ∧ chars <+: f.chars

/-- The unit takes the frame that begins with these characters: its first character is the unit's address,
and the unit itself is not sending it (R152). -/
def Takes (s : State) (chars : List Byte) : Prop :=
  (∃ rest, chars = addressChar (unitAddress s) :: rest) ∧ ¬ OwnFrame s chars

/-- What of a frame shows each receive fault (R153), where the receive queue holds `queued` frames: a
framing fault or a broken frame cuts it short, and the other three are found in its characters. -/
def FaultShown (chars : List Byte) (queued : Nat) : RxFault → Prop
  | .framing => assemble chars = .incomplete
  | .brokenFrame => assemble chars = .incomplete ∧ chars ≠ []
  | .length => assemble chars = .badLength
  | .check => assemble chars = .badCheck
  | .overrun => ∃ f, assemble chars = .complete f ∧ 4 ≤ queued

/-- The one counter of a receive fault raised by one, up to 65,535 (R153). -/
def counted (c : RxCounters) : RxFault → RxCounters
  | .framing => { c with framing := min 65535 (c.framing + 1) }
  | .brokenFrame => { c with brokenFrame := min 65535 (c.brokenFrame + 1) }
  | .length => { c with length := min 65535 (c.length + 1) }
  | .check => { c with check := min 65535 (c.check + 1) }
  | .overrun => { c with overrun := min 65535 (c.overrun + 1) }

/-! ### The ports keep their bounds (R149, R152, R154, R155, R157, R162, R163) -/

/-- The five counters lie in the range of a counter (R149, R162). -/
structure RxCounters.Bounded (c : RxCounters) : Prop where
  framing     : c.framing ≤ Config.counterMax
  brokenFrame : c.brokenFrame ≤ Config.counterMax
  length      : c.length ≤ Config.counterMax
  check       : c.check ≤ Config.counterMax
  overrun     : c.overrun ≤ Config.counterMax

/-- The Line Port's queues, credits, loss counts and counters lie in their ranges, and at most one steer
waits for a junction (R149). -/
structure Line.Bounded (l : Line) : Prop where
  rx          : l.rx.length ≤ Config.rxPlaces
  replies     : lineReplyCount l ≤ Config.lineReplyPlaces
  steers      : (l.steers.map fun w => w.steer.junction).Nodup
  steerCredit : l.steerCredit ≤ Config.steerCredits
  replyCredit : l.replyCredit ≤ Config.replyCredits
  beatLosses  : ∀ w, l.beat = some w → w.losses < Config.lossLimit
  steerLosses : ∀ w ∈ l.steers, w.losses < Config.lossLimit
  replyLosses : ∀ w ∈ l.replies, w.losses < Config.lossLimit
  losses      : ∀ f, l.inFlight = some f → f.losses < Config.lossLimit
  errors      : l.errors.Bounded
  drops       : l.arbitrationDrops ≤ Config.counterMax
  missed      : l.missedBeats ≤ Config.counterMax

/-- The Centre Port's queues, sequence and counters lie in their ranges (R162, R163). -/
structure Centre.Bounded (c : Centre) : Prop where
  rx      : c.rx.length ≤ Config.rxPlaces
  replies : centreReplyCount c ≤ Config.centreReplyPlaces
  notices : c.notices.length ≤ Config.noticePlaces
  seq     : c.noticeSeq < 256
  errors  : c.errors.Bounded

/-- Both ports keep their bounds. -/
def PortsBounded (s : State) : Prop := s.line.Bounded ∧ s.centre.Bounded

/-! ### The ports start frames at once (R155, R163) -/

/-- The centre transmitter stands idle only while nothing waits for it, and what it sends is the frame of
its reply or notice (R163). Nothing is asked of it in reset (R170), or once the reply of a RESET_UNIT has
completed (R172); until then a reply waits or is sent. -/
structure CentreGoes (s : State) : Prop where
  starts  : s.inReset = false → (∀ x, s.handler.reset = some x → x.replyDone = false) →
    s.centre.sending = none → s.centre.replies = [] ∧ s.centre.notices = []
  reply   : ∀ r chars, s.centre.sending = some (.reply r chars) → chars = (replyFrame s r).chars
  notice  : ∀ n chars, s.centre.sending = some (.notice n chars) → chars = (noticeFrame s n).chars
  pending : ∀ x, s.handler.reset = some x → x.replyDone = false → centreReplies s.centre ≠ []

/-- While the line is FREE with no frame in flight nothing waits: what could start has started (R155). -/
def LineGoes (s : State) : Prop :=
  s.inReset = false → s.line.state = .free → s.line.inFlight = none →
    s.line.beat = none ∧ s.line.steers = [] ∧ s.line.replies = []

/-- The frame in flight on the line is this item, just started: no loss counted, and its characters formed
from the state `s` (R71, R73, R155). -/
def Started (s u : State) (item : LineItem) : Prop :=
  u.line.inFlight =
    some { item, losses := 0, orphaned := false, chars := (lineFrame s item).chars }

/-! ### The priority list (R123, R124, R135) -/

/-- At most 8 entries, no two with one key, and none outside RUN; the clock lies in its range. -/
def PriorityBounded (s : State) : Prop :=
  s.priority.list.length ≤ Config.priorityPlaces ∧
  (s.priority.list.map fun e => (e.junction, e.tag)).Nodup ∧
  (s.timebase.mode ≠ .run → s.priority.list = []) ∧
  s.priority.clock < Config.clockModulus

/-! ### The timebase (R51, R52, R58, R70) -/

/-- Every field that a write sets lies in its range: the geometry record, the plan records, the selection
table (R3, R9, R18). -/
def FieldsInRange (g : Geometry) (plans : Fin 24 → PlanRecord) (table : Fin 16 → SelectionEntry) :
    Prop :=
  GeometryHeadRanges g.head ∧ (∀ j : Fin 12, GeometryEntryRanges g.entries[j]) ∧
  (∀ p, PlanHeadRanges (plans p).head ∧ ∀ j : Fin 12, PlanEntryRanges (plans p).entries[j]) ∧
  ∀ i, SelectionEntryRanges (table i)

/-- Both copies of the store hold fields in their ranges alone. -/
def StoredInRange (s : State) : Prop :=
  FieldsInRange s.store.geometry (fun p => s.store.plans[p]) (fun i => s.store.selection[i]) ∧
  FieldsInRange s.retained.geometry (fun p => s.retained.plans[p].record)
    (fun i => s.retained.selection[i])

/-- The timebase in each mode: in HOLD and ENTERING everything stands at 0; in RUN the active plan is a
plan, C is its cycle length, CC lies below C, and a pending plan is another plan (R51, R52, R58). A
boundary that is due stands at CC 0 (R58). -/
def TimebaseCoherent (s : State) : Prop :=
  match s.timebase.mode with
  | .hold =>
    s.timebase.cc = 0 ∧ s.timebase.c = 0 ∧ s.timebase.active = 0 ∧ s.timebase.pendingPlan = 0 ∧
    s.timebase.entry = 0 ∧ s.timebase.divider = none ∧ s.due.boundary = false
  | .entering =>
    s.timebase.cc = 0 ∧ s.timebase.c = 0 ∧ s.timebase.active = 0 ∧ s.timebase.pendingPlan = 0 ∧
    isPlan s.timebase.entry = true ∧ s.timebase.divider = none ∧ s.due.boundary = false
  | .run =>
    isPlan s.timebase.active = true ∧ s.timebase.entry = 0 ∧
    s.timebase.c = (s.store.plan s.timebase.active).head.c ∧ s.timebase.cc < s.timebase.c ∧
    (s.timebase.pendingPlan ≠ 0 →
      isPlan s.timebase.pendingPlan = true ∧ s.timebase.pendingPlan ≠ s.timebase.active) ∧
    (∃ d, s.timebase.divider = some d ∧ d ≤ 9) ∧
    (s.due.boundary = true → s.timebase.cc = 0)

/-- The timebase is coherent over stored fields that lie in their ranges. -/
def TimebaseSafe (s : State) : Prop := StoredInRange s ∧ TimebaseCoherent s

/-! ### The two copies of the store (R13, R22, R23) -/

/-- No record of retained memory is torn. -/
def Retained.intact (r : Retained) : Bool :=
  !r.headTorn && !anyTorn r.groupTorn &&
  decide (∀ p : Fin 24, r.plans[p].headTorn = false ∧ anyTorn r.plans[p].groupTorn = false ∧
    r.plans[p].stateTorn = none) &&
  decide (∀ i : Fin 16, r.selectionTorn[i] = false)

/-- A plan under the erase mark holds erase values in retained memory (R13). -/
def Retained.marksErased (r : Retained) : Bool :=
  decide (∀ p : Fin 24, r.plans[p].eraseMark = true → r.plans[p].record = .erased)

/-- What retained memory holds once the write in progress, if there is one, has completed. -/
def retainedAfterWrite (s : State) : Retained :=
  match s.retention with
  | none => s.retained
  | some record => keepRecord s.store s.retained record

/-- With nothing torn, the working copy is what retained memory loads once the write in progress has
completed: the two differ in the record being written alone (R22). -/
def CopiesAgree (s : State) : Prop :=
  s.retained.intact = true ∧ s.retained.marksErased = true ∧
  loadStore (retainedAfterWrite s) = s.store

/-! ### What is due -/

/-- The window of this local cycle is at its end: open, not full, its LC at the window end or beyond it
(R62, R68). -/
def WindowAtEnd (c : LocalCycle) : Prop :=
  c.windowOpen = true ∧ c.full = false ∧ c.windowEnd ≤ c.lc

/-- A pin is set and the silence timer stands at the pin lapse, which is not 0 (R110; log 22). -/
def LapseReached (s : State) : Prop :=
  (s.selector.planPin ≠ none ∨ s.selector.biasPin ≠ none) ∧ s.store.geometry.head.pinLapse ≠ 0 ∧
  s.selector.silence = 600 * s.store.geometry.head.pinLapse

/-- The priority clock has reached the expiry time of this entry: their difference is 0, or so large that
the time lies behind the clock (R123, R135). -/
def EntryAtExpiry (s : State) (e : PriorityEntry) : Prop :=
  let ahead := (e.expiry + 4294967296 - s.priority.clock) % 4294967296
  ahead = 0 ∨ 2147483648 ≤ ahead

/-- An event of the present ds is still to be taken (log 2): one that the last tick made due, a window at
its end, an evaluation with its timer at 0 (R101), a lapse reached, or an expiry. -/
def EventStands (s : State) : Prop :=
  s.due.boundary = true ∨ s.due.beat = true ∨ s.due.periodEnd = true ∨
  (∃ j : Junction, s.due.localZero[j] = true) ∨
  (s.timebase.mode = .run ∧ ∃ j : Junction, j.val < junctionCount s ∧ WindowAtEnd s.cycles[j]) ∨
  (s.timebase.mode = .run ∧ s.selector.evalTimer = some 0) ∨
  LapseReached s ∨ ∃ e ∈ s.priority.list, EntryAtExpiry s e

/-! ### A safe state -/

/-- Everything that a safe run keeps. -/
def Safe (s : State) : Prop :=
  PortsBounded s ∧ CentreGoes s ∧ LineGoes s ∧ PriorityBounded s ∧ TimebaseSafe s ∧
  CopiesAgree s ∧ s.causeRaised = false

end Sys2Proof.Machine
end

