-- ==== Sys2Proof/Certificates/Slice0/Obligations.lean ====
section
/-! DEFINITION. The statements for the provers, one def for each. -/

open Sys2Proof Sys2Proof.Machine

/-! ### The step -/

/-- A step takes the command at the front of the queue and runs it on the state with the queue's rest. -/
def Obligations.StepRunsFrontCommand : Prop :=
  ∀ (s : State) (c : Instr) (rest : List Instr), s.pending = c :: rest →
    step s = exec c (s.setPending rest)

/-- A command that completes leaves the queue of waiting commands as it was, and from a state in which no
recompute cause waits it goes to one in which none waits (R28: the causes of one event arrive with
it). -/
def Obligations.ExecLeavesQueueAndRest : Prop :=
  ∀ (c : Instr) (s u : State), exec c s = .next u →
    u.pending = s.pending ∧ (AtRest s → AtRest u)

/-- The model's choice (log 2, log 6, log 31): on an empty queue the unit idles, an event whose occasion
does not stand changes nothing, and an event that names a junction record beyond index 11, which the
unit does not have (R60), stops with a fault. The occasions are spelled out: for PIN_LAPSE a pin set and
the silence timer at the lapse, which is not 0, and not beyond it (log 22); for a window close an open
window that is not full at its end; for a request row the next frame of that row's kind; for a tick that
no event of the present ds stands. -/
def Obligations.NothingDueChangesNothing : Prop :=
  (∀ (s : State),
      (s.pending = [] → step s = .next s) ∧
      (s.due.boundary = false → exec .cycleBoundary s = .next s) ∧
      (∀ j : Junction, s.due.localZero[j] = false → exec (.localZero j) s = .next s) ∧
      (∀ j : Junction, s.timebase.mode ≠ .run ∨ s.cycles[j].windowOpen = false ∨
          s.cycles[j].full = true ∨ s.cycles[j].lc < s.cycles[j].windowEnd →
        exec (.windowClose j) s = .next s) ∧
      (s.due.beat = false → exec .beatDue s = .next s) ∧
      (s.timebase.mode ≠ .run ∨ s.selector.evalTimer ≠ some 0 → exec .evaluation s = .next s) ∧
      ((s.selector.planPin = none ∧ s.selector.biasPin = none) ∨
          s.store.geometry.head.pinLapse = 0 ∨
          s.selector.silence ≠ 600 * s.store.geometry.head.pinLapse →
        exec .pinLapse s = .next s) ∧
      (s.due.periodEnd = false → exec .periodEnd s = .next s) ∧
      (∀ (j : Junction) (tag : Nat),
          (∀ e ∈ s.priority.list, e.junction = j → e.tag = tag → ¬ EntryAtExpiry s e) →
        exec (.priorityExpiry j tag) s = .next s) ∧
      (s.retention = none → exec .retentionComplete s = .next s) ∧
      (s.engine.computing = none → exec .computationComplete s = .next s) ∧
      (s.line.inFlight = none →
        exec .frameComplete s = .next s ∧ exec .arbitrationLoss s = .next s) ∧
      (s.centre.sending = none → exec .centreFrameComplete s = .next s) ∧
      (s.handler.reset = none → ∀ pins, exec (.resetUnitTakesEffect pins) s = .next s) ∧
      (s.line.state ≠ .free → exec .lineBusy s = .next s) ∧
      (s.line.state ≠ .busy → exec .lineFault s = .next s) ∧
      (s.line.state = .free → ∀ cut, exec (.lineFree cut) s = .next s) ∧
      (EventStands s → exec .decisecondTick s = .next s) ∧
      (∀ k, (∀ t, nextFrame s = some t → kindOf t.frame.kind ≠ k) →
        exec (commandOf k) s = .next s)) ∧
  (∀ (s : State) (j tag : Nat), 12 ≤ j →
      exec (.localZero j) s = .fault .noSuchJunction ∧
      exec (.windowClose j) s = .fault .noSuchJunction ∧
      exec (.priorityExpiry j tag) s = .fault .noSuchJunction)

/-! ### Frames and requests (section 9.6) -/

/-- The payload of every request whose fields fit their characters is read back as that request, and has
the length of its kind (R159). -/
def Obligations.RequestPayloadsRoundTrip : Prop :=
  ∀ r : Request, r.wellFormed = true →
    parseRequest r.kind r.payload = some r ∧ r.payload.length = r.kind.payloadLength ∧
    kindOf (char1 r.kind.code) = some r.kind

/-- The characters of every frame with a payload of at most 24 characters assemble into that frame, those
of the same frame with another check word are a check fault, and any fewer of them are incomplete; a
length character above 24 is a length fault (R152, R153). -/
def Obligations.FramesRoundTrip : Prop :=
  (∀ f : Frame, f.payload.length ≤ 24 →
    assemble f.chars = .complete f ∧
    (∀ lo hi : Byte, [lo, hi] ≠ char2 (checkWord f.body) →
      assemble (f.body ++ [lo, hi]) = .badCheck) ∧
    (∀ n, n < f.chars.length → assemble (f.chars.take n) = .incomplete)) ∧
  (∀ dest src kind seq len : Byte, 24 < len.toNat →
    assemble [dest, src, kind, seq, len] = .badLength)

/-! ### Admission (sections 10.2 and 10.3) -/

/-- R166: the frame that the handler takes next is answered with exactly one reply, on its own port,
with the sender's sequence value; a result follows OK alone. The pointer names the port, and the
port's receive queue is shorter by the frame. What else is placed behind the reply are OUTCOME
frames on the line. A reply placed on the line while it is FREE, with no frame in flight and nothing
waiting, is started at once (R155), and so is one on an idle centre link where no reply waits (R163).
That the reply stands before the frames of its effect is the model's reading (log 8). -/
def Obligations.RequestYieldsOneReply : Prop :=
  ∀ (s : State) (t : Taken), nextFrame s = some t →
    ∃ u code result outcomes,
      exec (commandOf (kindOf t.frame.kind)) s = .next u ∧ FrameTaken s u t ∧
      (code ≠ ReplyCode.ok → result = []) ∧ (∀ o ∈ outcomes, ∃ f, o = ReplyItem.outcome f) ∧
      queuedReplies u t.port =
        queuedReplies s t.port ++ replyTo t code result :: (if t.port = .line then outcomes else []) ∧
      queuedReplies u t.port.other =
        queuedReplies s t.port.other ++ (if t.port = .line then [] else outcomes) ∧
      (t.port = .line → s.line.state = .free → s.line.inFlight = none → s.line.beat = none →
        s.line.steers = [] → s.line.replies = [] → Started s u (.queued (replyTo t code result))) ∧
      (t.port = .centre → s.centre.sending = none → s.centre.replies = [] →
        let r : Reply := { dest := addressOf t.frame.src, seq := t.frame.seq, code, result };
        u.centre.sending = some (.reply r (replyFrame s r).chars))

/-- R165, R166 and R6. A port can be served when a frame waits there and its reply queue has a free place, of
8 on the line and 4 on the centre link; of two such ports the handler takes the one that the pointer does
not name, of one that one, and there the oldest frame. Every frame of the centre port is the centre's; a
source on the line is the junction of the lowest index in 0..N-1 that holds its address, and an unknown
station where none does (R6, R139). The centre may send every kind but REPORT, a junction station REPORT,
calls and cancels for its own junction, and every read, and an unknown station every read. The handler's own
checks come first: a kind that is no request kind is answered UNKNOWN_KIND, one that the sender may not
send REFUSED_RIGHTS, and a payload of another length or with a named value beyond its set BAD_ARGUMENT,
and nothing else changes. -/
def Obligations.HandlerAdmits : Prop :=
  ((∀ (s : State), s.inReset = false → s.handler.reset = none →
      let line := s.line.rx ≠ [] ∧ (lineReplies s.line).length < 8
      let centre := s.centre.rx ≠ [] ∧ (centreReplies s.centre).length < 4
      (nextPort s = some .line ↔ line ∧ (¬ centre ∨ s.handler.served = .centre)) ∧
      (nextPort s = some .centre ↔ centre ∧ (¬ line ∨ s.handler.served = .line)) ∧
      (∀ p, nextPort s = some p ↔ ∃ t, nextFrame s = some t ∧ t.port = p)) ∧
    (∀ (s : State) (t : Taken), nextFrame s = some t →
      let holds := fun j : Junction =>
        j.val < junctionCount s ∧ s.store.geometry.entries[j].address = addressOf t.frame.src
      (receiveQueue s t.port).head? = some t.frame ∧
      (t.port = .centre → t.sender = .centre) ∧
      (t.port = .line →
        (∀ j, t.sender = .junction j ↔ holds j ∧ ∀ i : Junction, i < j → ¬ holds i) ∧
        (t.sender = .unknown ↔ ∀ j, ¬ holds j))) ∧
    (∀ (k : RequestKind) (t : Taken),
      let reads := k ∈ [RequestKind.readStatus, .readJunction, .readBand, .readPlanHead,
        .readPlanGroup, .readGeometryHead, .readGeometryGroup, .readSelection]
      (t.sender = .centre → (hasRight k t = true ↔ k ≠ .report)) ∧
      (t.sender = .unknown → (hasRight k t = true ↔ reads)) ∧
      (∀ j : Junction, t.sender = .junction j →
        (hasRight k t = true ↔ reads ∨ k = .report ∨
          ((k = .priorityCall ∨ k = .priorityCancel) ∧
            (t.frame.payload.length = k.payloadLength →
              ∃ b rest, t.frame.payload = b :: rest ∧ b.toNat = j.val)))))) ∧
  (∀ (s : State) (t : Taken), nextFrame s = some t →
      (kindOf t.frame.kind = none →
        RefusedWith .unknownKind s t .unknownKind) ∧
      (∀ k, kindOf t.frame.kind = some k → hasRight k t = false →
        RefusedWith (commandOf (some k)) s t .refusedRights) ∧
      (∀ k, kindOf t.frame.kind = some k → hasRight k t = true →
        parseRequest k t.frame.payload = none →
        RefusedWith (commandOf (some k)) s t .badArgument))

/-- R2: the five reads of the Plan Store are answered from the working copy in every mode and retention
state, or refused with BAD_ARGUMENT where the plan, group or selection index is out of range (or the
page beyond the last); a read changes no state but the ports'. -/
def Obligations.StoreReadsAnswered : Prop :=
  ∀ (s : State) (t : Taken), AtRest s →
    (∀ b, Admits s t (.readPlanHead b) →
      ReadServed .readPlanHead s t (1 ≤ b.index ∧ b.index ≤ 24) (planHeadResult s b.index) b.page) ∧
    (∀ b, Admits s t (.readPlanGroup b) →
      ReadServed .readPlanGroup s t (1 ≤ b.plan ∧ b.plan ≤ 24 ∧ b.group ≤ 2)
        (planGroupResult s b.plan b.group) b.page) ∧
    (∀ page, Admits s t (.readGeometryHead page) →
      ReadServed .readGeometryHead s t True (geometryHeadResult s) page) ∧
    (∀ b, Admits s t (.readGeometryGroup b) →
      ReadServed .readGeometryGroup s t (b.index ≤ 2) (geometryGroupResult s b.index) b.page) ∧
    (∀ b, Admits s t (.readSelection b) →
      ReadServed .readSelection s t (b.index ≤ 15) (selectionResult s b.index) b.page)

/-- READ_STATUS (R167): the page is formed as the state stands once the frame has been taken (log 29),
and only then the clear option sets every counter of both ports to 0. That a page beyond the last is
refused without a clear is the model's choice (log 37). READ_JUNCTION (R168) refuses an
index of 12 or above and otherwise returns the junction's page, and READ_BAND (R50) returns a page of
the active target set, which when empty is plan 0 with every field 0 and no junctions. The two change
nothing else. -/
def Obligations.UnitReadsAnswered : Prop :=
  (∀ (s : State) (t : Taken) (b : StatusBody), AtRest s → Admits s t (.readStatus b) →
      (pageOf (statusResult (takeFrame t.port s)) b.page = none →
        RefusedWith .readStatus s t .badArgument) ∧
      (∀ chars, pageOf (statusResult (takeFrame t.port s)) b.page = some chars →
        ∃ u, exec .readStatus s = .next u ∧ Replied s u t .ok chars ∧
          (b.clear = false → OnlyPorts s u) ∧
          (b.clear = true →
            u = { s with line := u.line, centre := u.centre, handler := u.handler } ∧
            u.line.errors = .zero ∧ u.line.arbitrationDrops = 0 ∧ u.line.missedBeats = 0 ∧
            u.centre.errors = .zero ∧ u.line.state = s.line.state ∧
            lineBeats u.line = lineBeats s.line ∧ lineSteers u.line = lineSteers s.line ∧
            u.centre.noticeSeq = s.centre.noticeSeq ∧
            centreNotices u.centre = centreNotices s.centre))) ∧
  (∀ (s : State) (t : Taken), AtRest s →
      (∀ b, Admits s t (.readJunction b) →
        (12 ≤ b.index → RefusedWith .readJunction s t .badArgument) ∧
        (∀ j : Junction, b.index = j.val →
          ReadServed .readJunction s t True (junctionResult s j) b.page)) ∧
      (∀ page, Admits s t (.readBand page) →
        ReadServed .readBand s t True
          (match s.engine.active with
            | none => List.replicate 11 0#8
            | some set => set.chars) page))

/-! ### The Plan Store (chapter 1) -/

/-- WRITE_PLAN_HEAD, WRITE_PLAN_GROUP and ERASE_PLAN (R10, R11, R13 with the refusals of R1 and R12): a
plan id, a group index or a field out of range, a plan in use and a retention write in progress refuse
each in that order. An accepted head write replaces every head field whatever their relations, a group
write the four entries of its group alone; both make the plan UNCHECKED, keep stamp and fault, and start
the write of their record. An erase gives every field its erase value, the state EMPTY, stamp 0 and
fault NONE, and starts a state write marked as an erase. -/
def Obligations.PlanRecordsWritten : Prop :=
  (∀ (s : State) (t : Taken) (b : PlanHeadWrite), AtRest s → Admits s t (.writePlanHead b) →
      (¬(PlanNumber b.plan ∧ PlanHeadRanges b.head) → RefusedWith .writePlanHead s t .badArgument) ∧
      (∀ p : Fin 24, b.plan = p.val + 1 → PlanHeadRanges b.head →
        (PlanInUse s b.plan → RefusedWith .writePlanHead s t .inUse) ∧
        (¬ PlanInUse s b.plan → s.retention ≠ none → RefusedWith .writePlanHead s t .busy) ∧
        (¬ PlanInUse s b.plan → s.retention = none →
          StoreChanged .writePlanHead s t []
            (s.store.putPlan p { s.store.plans[p] with state := .unchecked, head := b.head })
            (some (.planHead p))))) ∧
  (∀ (s : State) (t : Taken) (b : PlanGroupWrite), AtRest s → Admits s t (.writePlanGroup b) →
      (¬(PlanNumber b.plan ∧ b.group ≤ 2 ∧ ∀ k : Fin 4, PlanEntryRanges b.entries[k]) →
        RefusedWith .writePlanGroup s t .badArgument) ∧
      (∀ (p : Fin 24) (g : Fin 3), b.plan = p.val + 1 → b.group = g.val →
        (∀ k : Fin 4, PlanEntryRanges b.entries[k]) →
        (PlanInUse s b.plan → RefusedWith .writePlanGroup s t .inUse) ∧
        (¬ PlanInUse s b.plan → s.retention ≠ none → RefusedWith .writePlanGroup s t .busy) ∧
        (¬ PlanInUse s b.plan → s.retention = none →
          ∃ entries, GroupReplaced s.store.plans[p].entries entries g.val b.entries ∧
            StoreChanged .writePlanGroup s t []
              (s.store.putPlan p { s.store.plans[p] with state := .unchecked, entries })
              (some (.planGroup p g))))) ∧
  (∀ (s : State) (t : Taken) (n : Nat), AtRest s → Admits s t (.erasePlan n) →
      (¬ PlanNumber n → RefusedWith .erasePlan s t .badArgument) ∧
      (∀ p : Fin 24, n = p.val + 1 →
        (PlanInUse s n → RefusedWith .erasePlan s t .inUse) ∧
        (¬ PlanInUse s n → s.retention ≠ none → RefusedWith .erasePlan s t .busy) ∧
        (¬ PlanInUse s n → s.retention = none →
          StoreChanged .erasePlan s t []
            (s.store.putPlan p
              { state := .empty, stamp := 0, fault := .none
                head := { c := 400, p := 0, anchor := 0, vIn := 20, vOut := 20, biasNominal := 50,
                          biasMin := 0, biasMax := 100, gMin := 50, sMin := 50, dwellPct := 0,
                          shortPct := 0, eMax := 0, xMax := 0, lockout := 0, gatePct := 100 }
                entries := Vector.replicate 12
                  { share := 0, trim := 0, follow := false, priIn := false, priOut := false } })
            (some (.planState p true)))))

/-- CHECK_PLAN (R15 with the refusals of R1): an EMPTY plan is NOT_READY; otherwise the first condition of
the table that fails is the result. A pass makes the plan CHECKED under the geometry stamp, a fault
makes it UNCHECKED with that fault, and a state write starts only when the stored state changed. -/
def Obligations.PlanChecked : Prop :=
  ∀ (s : State) (t : Taken) (n : Nat), AtRest s → Admits s t (.checkPlan n) →
    (¬ PlanNumber n → RefusedWith .checkPlan s t .badArgument) ∧
    (∀ p : Fin 24, n = p.val + 1 →
      (s.store.plans[p].state = .empty → RefusedWith .checkPlan s t .notReady) ∧
      (s.store.plans[p].state ≠ .empty → s.retention ≠ none → RefusedWith .checkPlan s t .busy) ∧
      (s.store.plans[p].state ≠ .empty → s.retention = none →
        ∃ f r, PlanVerdict s.store.geometry s.store.plans[p] f ∧
          (f = .none → r = { s.store.plans[p] with
            state := .checked, stamp := s.store.geometry.stamp, fault := .none }) ∧
          (f ≠ .none → r = { s.store.plans[p] with state := .unchecked, fault := f }) ∧
          StoreChanged .checkPlan s t (f.chars ++ char2 s.store.geometry.stamp)
            (s.store.putPlan p r)
            (if r = s.store.plans[p] then none else some (.planState p false))))

/-- Facts that are read off the state and not stored. A plan is READY exactly when it is CHECKED under
the stamp of a VALID geometry (R17), and in use exactly when the Timebase names it as active, as
pending, or while ENTERING as the entry plan (R12). A junction is gated now exactly while a
link-direction it reports is SET (R117), and constrains a computation exactly when it is windowed, or
full and gated, it follows, and it is not LOST (R34). The computing plan is the pending plan, else the
active plan in RUN, the entry plan in ENTERING, and none in HOLD (R29); its bias is the live bias, and
for the pending plan its nominal or the pin clamped into its range (R32). -/
def Obligations.DerivedFactsFollowTheState : Prop :=
  ((∀ (s : State) (p : Fin 24), ready s (p.val + 1) = true ↔ PlanReady s p) ∧
    (∀ (s : State) (n : Nat), ¬ PlanNumber n → ready s n = false) ∧
    (∀ (s : State) (n : Nat), inUse s n = true ↔ PlanInUse s n)) ∧
  ((∀ (s : State) (j : Junction), j.val < junctionCount s →
      (gatedNow s j = true ↔
        (∃ k : LinkIndex, k.val = j.val ∧ k.val + 2 ≤ junctionCount s ∧
          s.gate.inbound[k].isSet = true) ∨
        (∃ k : LinkIndex, k.val + 1 = j.val ∧ s.gate.outbound[k].isSet = true))) ∧
    (∀ (x : Snapshot) (j : Junction),
      x.constraining j.val = true ↔
        (x.cls j.val = .windowed ∨ (x.cls j.val = .full ∧ x.gated j.val = true)) ∧
        x.following[j] = true ∧ x.roster[j] ≠ .lost)) ∧
  (∀ (s : State),
      (s.timebase.mode = .hold → computingRole s = none) ∧
      (s.timebase.mode = .entering → computingRole s = some (s.timebase.entry, .entry)) ∧
      (s.timebase.mode = .run → s.timebase.pendingPlan = 0 →
        computingRole s = some (s.timebase.active, .active)) ∧
      (s.timebase.mode = .run → s.timebase.pendingPlan ≠ 0 →
        computingRole s = some (s.timebase.pendingPlan, .pending)) ∧
      (∀ p : Fin 24,
        (takeSnapshot s (p.val + 1) .entry).bias = s.selector.liveBias ∧
        (takeSnapshot s (p.val + 1) .active).bias = s.selector.liveBias ∧
        (s.selector.biasPin = none →
          (takeSnapshot s (p.val + 1) .pending).bias = s.store.plans[p].head.biasNominal) ∧
        (∀ v, s.selector.biasPin = some v →
          (takeSnapshot s (p.val + 1) .pending).bias =
            max s.store.plans[p].head.biasMin (min v s.store.plans[p].head.biasMax))))

/-- WRITE_GEOMETRY_HEAD that keeps N and WRITE_GEOMETRY_GROUP (R4, R5 with the refusals of R1): each is
refused outside HOLD first, then for a field or group out of range, then while a retention write is in
progress. An accepted head write replaces every writable head field and touches no junction entry, a
group write the four entries of its group alone; both make the geometry UNCHECKED, keep stamp and fault,
and start the write of their record. No roster, demand or spill state moves. -/
def Obligations.GeometryRecordsWritten : Prop :=
  (∀ (s : State) (t : Taken) (h : GeometryHead), AtRest s → Admits s t (.writeGeometryHead h) →
      (s.timebase.mode ≠ .hold → RefusedWith .writeGeometryHead s t .wrongMode) ∧
      (s.timebase.mode = .hold → ¬ GeometryHeadRanges h →
        RefusedWith .writeGeometryHead s t .badArgument) ∧
      (s.timebase.mode = .hold → GeometryHeadRanges h → s.retention ≠ none →
        RefusedWith .writeGeometryHead s t .busy) ∧
      (s.timebase.mode = .hold → GeometryHeadRanges h → s.retention = none →
        h.n = s.store.geometry.head.n →
        StoreChanged .writeGeometryHead s t []
          { s.store with geometry := { s.store.geometry with state := .unchecked, head := h } }
          (some .geometryHead))) ∧
  (∀ (s : State) (t : Taken) (b : GeometryGroupWrite), AtRest s → Admits s t (.writeGeometryGroup b) →
      (s.timebase.mode ≠ .hold → RefusedWith .writeGeometryGroup s t .wrongMode) ∧
      (s.timebase.mode = .hold →
        ¬(b.group ≤ 2 ∧ ∀ k : Fin 4, GeometryEntryRanges b.entries[k]) →
        RefusedWith .writeGeometryGroup s t .badArgument) ∧
      (∀ g : Fin 3, b.group = g.val → s.timebase.mode = .hold →
        (∀ k : Fin 4, GeometryEntryRanges b.entries[k]) →
        (s.retention ≠ none → RefusedWith .writeGeometryGroup s t .busy) ∧
        (s.retention = none →
          ∃ entries, GroupReplaced s.store.geometry.entries entries g.val b.entries ∧
            StoreChanged .writeGeometryGroup s t []
              { s.store with geometry := { s.store.geometry with state := .unchecked, entries } }
              (some (.geometryGroup g)))))

/-- WRITE_GEOMETRY_HEAD that changes N (R4, R97, R121, R139): junctions beyond the new N become ABSENT and
junctions brought in SILENT, each with counts 0 and FOLLOWING clear, and those under both keep their
entry; demand fields and levels that the new N leaves out become 0; link-directions that it leaves out
become CLEAR, with one notice for each that was SET, inbound before outbound as k rises (log 9). The
engine, which is in HOLD, takes no cause. -/
def Obligations.CorridorResized : Prop :=
  ∀ (s : State) (t : Taken) (h : GeometryHead), AtRest s → Admits s t (.writeGeometryHead h) →
    s.timebase.mode = .hold → GeometryHeadRanges h → s.retention = none →
    h.n ≠ s.store.geometry.head.n →
    ∃ u, exec .writeGeometryHead s = .next u ∧
      u = { s with
        store := { s.store with geometry := { s.store.geometry with state := .unchecked, head := h } }
        retention := some .geometryHead
        roster := { s.roster with junctions := u.roster.junctions }, demand := u.demand,
        gate := u.gate, line := u.line, centre := u.centre, handler := u.handler } ∧
      (∀ j : Junction, u.roster.junctions[j] =
        if h.n ≤ j.val then { state := .absent, misses := 0, reports := 0, following := false }
        else if s.store.geometry.head.n ≤ j.val then
          { state := .silent, misses := 0, reports := 0, following := false }
        else s.roster.junctions[j]) ∧
      (∀ j : Junction, u.demand.junctions[j] =
        if h.n ≤ j.val then { sIn := 0, sOut := 0, inVolume := 0, outVolume := 0 }
        else s.demand.junctions[j]) ∧
      (∀ k : LinkIndex,
        u.demand.levelIn[k] = (if h.n ≤ k.val + 1 then 0 else s.demand.levelIn[k]) ∧
        u.demand.levelOut[k] = (if h.n ≤ k.val + 1 then 0 else s.demand.levelOut[k]) ∧
        u.gate.inbound[k] =
          (if h.n ≤ k.val + 1 then { isSet := false, run := 0 } else s.gate.inbound[k]) ∧
        u.gate.outbound[k] =
          (if h.n ≤ k.val + 1 then { isSet := false, run := 0 } else s.gate.outbound[k])) ∧
      Replied s u t .ok [] ∧ LineQuiet s u ∧ u.handler.reset = s.handler.reset ∧
      CentreNoticed s u ((allLinks.filter fun k => decide (h.n ≤ k.val + 1)).flatMap fun k =>
        spillNotice .inbound k s.gate.inbound[k] { isSet := false, run := 0 } k.val .geometry ++
        spillNotice .outbound k s.gate.outbound[k] { isSet := false, run := 0 } (k.val + 1)
          .geometry)

/-- CHECK_GEOMETRY (R7 with the refusals of R1), for a junction count of at most 12: the first condition of the
table that fails is the result. A pass on UNCHECKED geometry makes it VALID with the next stamp (65535
is followed by 1) and fault NONE, a pass on VALID geometry changes nothing, a fault makes it UNCHECKED
with that fault and the stamp kept; the head write starts only when something changed. -/
def Obligations.GeometryChecked : Prop :=
  ∀ (s : State) (t : Taken), AtRest s → Admits s t .checkGeometry →
    junctionCount s ≤ 12 →
    (s.timebase.mode ≠ .hold → RefusedWith .checkGeometry s t .wrongMode) ∧
    (s.timebase.mode = .hold → s.retention ≠ none → RefusedWith .checkGeometry s t .busy) ∧
    (s.timebase.mode = .hold → s.retention = none →
      ∃ f g, GeometryVerdict s.store.geometry f ∧
        (f = .none → s.store.geometry.state = .valid → g = s.store.geometry) ∧
        (f = .none → s.store.geometry.state = .unchecked →
          g = { s.store.geometry with
            state := .valid, fault := .none
            stamp := if s.store.geometry.stamp = 65535 then 1 else s.store.geometry.stamp + 1 }) ∧
        (f ≠ .none → g = { s.store.geometry with state := .unchecked, fault := f }) ∧
        StoreChanged .checkGeometry s t (char1 f.code :: char2 g.stamp)
          { s.store with geometry := g }
          (if g = s.store.geometry then none else some .geometryHead))

/-- WRITE_SELECTION (R18 with the refusals of R1) is accepted in every mode: it replaces the one entry and
starts the write of its record, whatever the state of the plan it names. -/
def Obligations.SelectionWritten : Prop :=
  ∀ (s : State) (t : Taken) (b : SelectionWrite), AtRest s → Admits s t (.writeSelection b) →
    (¬(b.index ≤ 15 ∧ SelectionEntryRanges b.entry) →
      RefusedWith .writeSelection s t .badArgument) ∧
    (∀ i : Fin 16, b.index = i.val → SelectionEntryRanges b.entry →
      (s.retention ≠ none → RefusedWith .writeSelection s t .busy) ∧
      (s.retention = none →
        StoreChanged .writeSelection s t []
          { s.store with selection := s.store.selection.set i.val b.entry i.isLt }
          (some (.selectionEntry i))))

/-- The completion of a retention write (R20, section 1.8): the retained cells of its record take the
working copy's values, a plan's head or group write clears the erase mark, the state write of an erase
carries the erase values and the mark, and that record is no longer torn. An erase mends the head and
all three groups as well; nothing else mends them (R23). -/
def Obligations.RetentionWriteCompletes : Prop :=
  ∀ (s : State) (r : RetentionRecord), s.inReset = false → s.retention = some r →
    ∃ kept, exec .retentionComplete s = .next { s with retained := kept, retention := none } ∧
      match r with
      | .geometryHead =>
        kept = { s.retained with
          geometry := { s.store.geometry with entries := s.retained.geometry.entries }
          headTorn := false }
      | .geometryGroup g =>
        kept = { s.retained with
          geometry := { s.retained.geometry with
            state := s.store.geometry.state, entries := kept.geometry.entries }
          groupTorn := s.retained.groupTorn.set g.val false g.isLt } ∧
        (∀ j : Fin 12, kept.geometry.entries[j] =
          if j.val / 4 = g.val then s.store.geometry.entries[j]
          else s.retained.geometry.entries[j])
      | .planHead p =>
        kept = { s.retained with
          plans := s.retained.plans.set p.val
            { s.retained.plans[p] with
              record := { s.store.plans[p] with entries := s.retained.plans[p].record.entries }
              eraseMark := false, headTorn := false } p.isLt }
      | .planGroup p g =>
        ∃ entries,
          (∀ j : Fin 12, entries[j] =
            if j.val / 4 = g.val then s.store.plans[p].entries[j]
            else s.retained.plans[p].record.entries[j]) ∧
          kept = { s.retained with
            plans := s.retained.plans.set p.val
              { s.retained.plans[p] with
              record := { s.store.plans[p] with head := s.retained.plans[p].record.head, entries }
              eraseMark := false
              groupTorn := s.retained.plans[p].groupTorn.set g.val false g.isLt } p.isLt }
      | .planState p false =>
        kept = { s.retained with
          plans := s.retained.plans.set p.val
            { s.retained.plans[p] with
              record := { s.store.plans[p] with
                head := s.retained.plans[p].record.head
                entries := s.retained.plans[p].record.entries }
              eraseMark := false, stateTorn := none } p.isLt }
      | .planState p true =>
        kept = { s.retained with
          plans := s.retained.plans.set p.val
            { record := s.store.plans[p], eraseMark := true, headTorn := false,
              groupTorn := Vector.replicate 3 false, stateTorn := none } p.isLt }
      | .selectionEntry i =>
        kept = { s.retained with
          selection := s.retained.selection.set i.val s.store.selection[i] i.isLt
          selectionTorn := s.retained.selectionTorn.set i.val false i.isLt }

/-- R22 as an invariant: with nothing torn, the working copy is at every moment what retained memory loads
once the write in progress has completed. Every command keeps it, but for a reset that tears a write.
After a torn geometry group has been mended by its own write it need not hold: that the last check fault
is then not retained is the model's choice (log 36). -/
def Obligations.CopiesAgreeKept : Prop :=
  ∀ (c : Instr) (s u : State), exec c s = .next u → CopiesAgree s →
    (s.retention = none ∨
      (c ≠ .resetNAssert ∧ (∀ pins, c ≠ .hardwareReset pins) ∧
        ∀ pins, c ≠ .resetUnitTakesEffect pins)) →
    CopiesAgree u

/-- R23: what a hardware reset that strikes during a retention write loads, where nothing was torn before.
The cells of the torn record take their blank or erase values, its geometry or plan loads UNCHECKED
with fault TORN (a plan with stamp 0, the geometry with the stamp it had before), and everything else
loads as retained. And what stands torn loads so again at every hardware reset, until a write mends it:
a torn head, group or selection entry its blank or erase values, beside a plan state that loads TORN; a
plan state torn
by an erase the erase values in the head and every group. A plan of which nothing is torn, one that a
completed check has mended among them, loads as retained. That a hardware reset alone tears a write
(log 17), that a torn record prevails over an erase mark, and that the retained head and groups hold the
erase values that they load while the state is torn by an erase (log 15, R22), is the model's reading. -/
def Obligations.TornRecordsLoad : Prop :=
  (∀ (s : State) (r : RetentionRecord) (pins : Straps), s.retention = some r →
    s.retained.intact = true →
    ∃ u, exec (.hardwareReset pins) s = .next u ∧ u.retention = none ∧
      (∀ p : Fin 24, (∀ g, r ≠ .planGroup p g) → (∀ e, r ≠ .planState p e) → r ≠ .planHead p →
        u.store.plans[p] =
          if s.retained.plans[p].eraseMark = true then .erased else s.retained.plans[p].record) ∧
      (∀ i : Fin 16, u.store.selection[i] =
        if r = .selectionEntry i then
          { valid := false, plan := 0, low := 0, high := 1000, dominance := .any, persistence := 1 }
        else s.retained.selection[i]) ∧
      match r with
      | .geometryHead =>
        u.store.geometry = { s.retained.geometry with
          state := .unchecked, fault := .torn, head := .blank }
      | .geometryGroup g =>
        u.store.geometry = { s.retained.geometry with
          state := .unchecked, fault := .torn, entries := u.store.geometry.entries } ∧
        (∀ j : Fin 12, u.store.geometry.entries[j] =
          if j.val / 4 = g.val then { address := j.val + 1, position := 0 }
          else s.retained.geometry.entries[j])
      | .planHead p =>
        u.store.geometry = s.retained.geometry ∧
        u.store.plans[p] = { s.retained.plans[p].record with
          state := .unchecked, stamp := 0, fault := .torn, head := .erased }
      | .planGroup p g =>
        u.store.geometry = s.retained.geometry ∧
        u.store.plans[p] = { s.retained.plans[p].record with
          state := .unchecked, stamp := 0, fault := .torn
          entries := u.store.plans[p].entries } ∧
        (∀ j : Fin 12, u.store.plans[p].entries[j] =
          if j.val / 4 = g.val then .erased else s.retained.plans[p].record.entries[j])
      | .planState p false =>
        u.store.geometry = s.retained.geometry ∧
        u.store.plans[p] = { s.retained.plans[p].record with
          state := .unchecked, stamp := 0, fault := .torn }
      | .planState p true =>
        u.store.geometry = s.retained.geometry ∧
        u.store.plans[p] = { PlanRecord.erased with state := .unchecked, fault := .torn } ∧
        u.retained.plans[p] = { s.retained.plans[p] with
          record := { s.retained.plans[p].record with
            head := .erased, entries := Vector.replicate 12 .erased }
          stateTorn := some .erase }
      | .selectionEntry _ => u.store.geometry = s.retained.geometry) ∧
  (∀ (s : State) (pins : Straps), s.retention = none →
    ∃ u, exec (.hardwareReset pins) s = .next u ∧
      (s.retained.headTorn = true ∨ (∃ g : Fin 3, s.retained.groupTorn[g] = true) →
        u.store.geometry.state = .unchecked ∧ u.store.geometry.fault = .torn ∧
        u.store.geometry.stamp = s.retained.geometry.stamp) ∧
      (s.retained.headTorn = true → u.store.geometry.head = .blank) ∧
      (∀ j : Fin 12, s.retained.groupTorn[Fin.ofNat 3 (j.val / 4)] = true →
        u.store.geometry.entries[j] = { address := j.val + 1, position := 0 }) ∧
      (∀ i : Fin 16, u.store.selection[i] =
        if s.retained.selectionTorn[i] = true then
          { valid := false, plan := 0, low := 0, high := 1000, dominance := .any, persistence := 1 }
        else s.retained.selection[i]) ∧
      (∀ p : Fin 24,
        let k := s.retained.plans[p]
        (k.headTorn = true ∨ (∃ g : Fin 3, k.groupTorn[g] = true) ∨ k.stateTorn ≠ none →
          u.store.plans[p].state = .unchecked ∧ u.store.plans[p].stamp = 0 ∧
          u.store.plans[p].fault = .torn) ∧
        (k.headTorn = true ∨ k.stateTorn = some .erase → u.store.plans[p].head = .erased) ∧
        (∀ j : Fin 12, k.groupTorn[Fin.ofNat 3 (j.val / 4)] = true ∨ k.stateTorn = some .erase →
          u.store.plans[p].entries[j] = .erased) ∧
        (k.headTorn = false → (∀ g : Fin 3, k.groupTorn[g] = false) → k.stateTorn = none →
          u.store.plans[p] = if k.eraseMark = true then .erased else k.record) ∧
        u.retained.plans[p] =
          if k.stateTorn = some .erase then
            { k with record := { k.record with
                head := .erased, entries := Vector.replicate 12 .erased } }
          else k))

/-- No command but the eight store-changing requests and the resets changes the working copy, the record
being written, or (but for the completion of its write) the retained copy; and only the resets latch
the straps (R1, R2, R20, R169). -/
def Obligations.StoreChangesByItsOwnCommands : Prop :=
  ∀ (c : Instr) (s u : State), exec c s = .next u →
    (∀ pins, c ≠ .hardwareReset pins) → (∀ pins, c ≠ .resetUnitTakesEffect pins) →
    u.straps = s.straps ∧
    (c ≠ .retentionComplete → c ≠ .resetNAssert → u.retained = s.retained) ∧
    (c ∉ [Instr.writePlanHead, .writePlanGroup, .erasePlan, .checkPlan, .writeGeometryHead,
        .writeGeometryGroup, .checkGeometry, .writeSelection] →
      u.store = s.store ∧
      (c ≠ .retentionComplete → c ≠ .resetNAssert → u.retention = s.retention))

/-! ### The Band Engine (chapter 2) -/

/-- R14: a junction with FOLLOW set that is not the anchor has the anchor's share, every other its own;
0 is uncoordinated, 1000 full, any other windowed, with a window of C × s / 1000 rounded half up and at
least G_min. The window fixed at a local zero follows the table of R64, row by row, and a computation
whose snapshot is taken in the same state records the same length and gate for every junction 0..N-1
(R33). -/
def Obligations.WindowsFollowTheShares : Prop :=
  (∀ (r : PlanRecord) (j a : Junction), r.head.anchor = a.val →
      r.shareOf j.val =
        (if r.entries[j].follow = true ∧ j ≠ a then r.entries[a].share else r.entries[j].share) ∧
      (classOf (r.shareOf j.val) = .uncoordinated ↔ r.shareOf j.val = 0) ∧
      (classOf (r.shareOf j.val) = .full ↔ r.shareOf j.val = 1000) ∧
      (classOf (r.shareOf j.val) = .windowed ↔ r.shareOf j.val ≠ 0 ∧ r.shareOf j.val ≠ 1000) ∧
      ∀ c gMin share,
        ((c * share + 500) / 1000 < gMin → nominalWindow c gMin share = gMin) ∧
        (gMin ≤ (c * share + 500) / 1000 → nominalWindow c gMin share = (c * share + 500) / 1000)) ∧
  ((∀ (r : PlanRecord) (gated : Bool) (j : Nat),
      let h := r.head
      let g := nominalWindow h.c h.gMin (r.shareOf j)
      (r.shareOf j = 0 → fixWindow r gated j = { gEff := 0, full := false }) ∧
      (r.shareOf j ≠ 0 → r.shareOf j ≠ 1000 → gated = false →
        fixWindow r gated j = { gEff := g, full := false }) ∧
      (r.shareOf j ≠ 0 → r.shareOf j ≠ 1000 → gated = true →
        fixWindow r gated j = { gEff := max h.gMin ((g * h.gatePct + 50) / 100), full := false }) ∧
      (r.shareOf j = 1000 → gated = false → fixWindow r gated j = { gEff := h.c, full := true }) ∧
      (r.shareOf j = 1000 → gated = true →
        fixWindow r gated j =
          { gEff := min (h.c - h.sMin) (max h.gMin ((h.c * h.gatePct + 50) / 100)),
            full := false })) ∧
    (∀ (s : State) (p : Nat) (role : PlanRole) (j : Junction), j.val < junctionCount s →
      (takeSnapshot s p role).gated j.val = gatedNow s j ∧
      (takeSnapshot s p role).gEff j.val = (fixWindow (s.store.plan p) (gatedNow s j) j.val).gEff))

/-- R35: the factor of a level is 100, 85, 70 or 55, and the link speed is the part of the plan speed rounded
half up, at least 15. R36: the link time is 36 × L over the speed rounded half up; T_in of junction 0
and T_out of junction N-1 are 0, and each link adds its time once. -/
def Obligations.LinkSpeedsAndTimes : Prop :=
  (∀ v : Nat,
    linkSpeed v 0 = max 15 ((v * 100 + 50) / 100) ∧ linkSpeed v 1 = max 15 ((v * 85 + 50) / 100) ∧
    linkSpeed v 2 = max 15 ((v * 70 + 50) / 100) ∧
    linkSpeed v 3 = max 15 ((v * 55 + 50) / 100)) ∧
  (∀ length v : Nat, 0 < v →
    linkTime length v = (36 * length + v / 2) / v ∧
    2 * (linkTime length v * v) ≤ 72 * length + v ∧
    72 * length ≤ 2 * (linkTime length v * v) + v) ∧
  (∀ (x : Snapshot) (k : LinkIndex),
    x.linkLength k.val = x.positions[k.succ] - x.positions[k.castSucc] ∧
    x.timeIn k.val = linkTime (x.linkLength k.val) (linkSpeed x.vIn x.levelIn[k]) ∧
    x.timeOut k.val = linkTime (x.linkLength k.val) (linkSpeed x.vOut x.levelOut[k])) ∧
  (∀ (x : Snapshot), x.cumIn 0 = 0 ∧ x.cumOut (x.n - 1) = 0 ∧
    (∀ i, x.cumIn (i + 1) = x.cumIn i + x.timeIn i) ∧
    (∀ i, i + 1 < x.n → x.cumOut i = x.timeOut i + x.cumOut (i + 1)))

/-- R37 to R40: the ideal offsets lie in the cycle and are 0 at the anchor; the circular difference is the
shorter way round, +C/2 at the half; the blend has its sign and at most its size, nothing at bias 100
and all of it at bias 0; and the target is (P + o_in + q + trim) mod C, in 0..C-1, which at bias 100 is
the inbound ideal and at bias 0 the outbound ideal, moved by P and the trim. -/
def Obligations.TargetsLieInTheCycle : Prop :=
  ∀ (x : Snapshot) (j : Junction), 0 < x.c → x.bias ≤ 100 →
    let delta := circularDifference x.c (x.idealIn j.val) (x.idealOut j.val)
    let q := x.blendAmount j.val
    (x.idealIn j.val : Int) = ((x.cumIn j.val : Int) - x.cumIn x.anchor) % x.c ∧
    (x.idealOut j.val : Int) = ((x.cumOut j.val : Int) - x.cumOut x.anchor) % x.c ∧
    x.idealIn x.anchor = 0 ∧ x.idealOut x.anchor = 0 ∧
    (x.c : Int) ∣ (x.idealOut j.val : Int) - x.idealIn j.val - delta ∧
    -(x.c : Int) < 2 * delta ∧ 2 * delta ≤ x.c ∧
    (0 ≤ delta → q = (delta * (100 - x.bias : Nat) + 50) / 100 ∧ 0 ≤ q ∧ q ≤ delta) ∧
    (delta < 0 → q = -((-delta * (100 - x.bias : Nat) + 50) / 100) ∧ delta ≤ q ∧ q ≤ 0) ∧
    (x.target j.val : Int) = (x.p + x.idealIn j.val + q + x.trims[j]) % x.c ∧
    x.target j.val < x.c ∧
    (x.bias = 100 → (x.target j.val : Int) = (x.p + x.idealIn j.val + x.trims[j]) % x.c) ∧
    (x.bias = 0 → (x.target j.val : Int) = (x.p + x.idealOut j.val + x.trims[j]) % x.c)

/-- R41 and R42: the reference starts are the targets carried back along the unreduced travel times; the
bandwidth is the largest band over the candidate times, so C without a constraining junction, at most
C and at most every constraining junction's window otherwise, at least the band at each candidate, and
with one constraining junction its window. No time of the cycle has a wider band than the candidates.
The set that is formed holds both bandwidths, each over its direction's starts of the constraining
junctions, and an entry for every junction 0..N-1 (R26). -/
def Obligations.BandwidthIsTheWidestBand : Prop :=
  (∀ (x : Snapshot) (i : Nat), 0 < x.c →
    (x.startIn i : Int) =
      ((x.target i : Int) - ((x.cumIn i : Int) - x.cumIn x.anchor)) % x.c ∧
    (x.startOut i : Int) =
      ((x.target i : Int) - ((x.cumOut i : Int) - x.cumOut x.anchor)) % x.c) ∧
  (∀ (c : Nat) (windows : List (Nat × Nat)), 0 < c →
    (∀ w ∈ windows, w.1 < c ∧ w.2 ≤ c) →
    (windows = [] → bandwidth c windows = c) ∧
    (∀ w, windows = [w] → bandwidth c windows = w.2) ∧
    bandwidth c windows ≤ c ∧ (∀ w ∈ windows, bandwidth c windows ≤ w.2) ∧
    (windows ≠ [] → ∃ t ∈ windows, ∀ w ∈ windows, bandwidth c windows ≤ windowLeft c w.2 w.1 t.1) ∧
    (∀ t, t < c → windows ≠ [] → ∃ w ∈ windows, windowLeft c w.2 w.1 t ≤ bandwidth c windows)) ∧
  (∀ c gEff start t : Nat, 0 < c →
    let u : Int := ((t : Int) - start) % c
    (u < gEff → (windowLeft c gEff start t : Int) = gEff - u) ∧
    (gEff ≤ u → windowLeft c gEff start t = 0)) ∧
  (∀ (x : Snapshot) (generation : Nat),
    let windows := fun start : Nat → Nat =>
      ((List.range x.n).filter x.constraining).map fun i => (start i, x.gEff i)
    let set := computeSet x generation
    set.plan = x.plan ∧ set.generation = generation ∧ set.c = x.c ∧ set.n = x.n ∧
    set.bias = x.bias ∧ set.bandIn = bandwidth x.c (windows x.startIn) ∧
    set.bandOut = bandwidth x.c (windows x.startOut) ∧ set.entries.length = x.n ∧
    ∀ i, i < x.n → set.entries[i]? = some
      { target := x.target i, cls := x.cls i, g := x.g i, gEff := x.gEff i
        constraining := x.constraining i })

/-- The completion of a computation (R43, R44) but for the publication in ENTERING: a result that is marked,
or whose plan is no longer the computing plan, changes no set and no generation; otherwise the
generation rises by one (65535 is followed by 0) and the set is published with it, to the pending set
for the pending plan and to the active set for the active plan. Then a computation starts at once for
the computing plan if one is owed, so in ENTERING after a discard that of the entry plan (R46), and else
the engine is IDLE with both flags clear. Nothing else changes. -/
def Obligations.ComputationCompletes : Prop :=
  ∀ (s : State) (x : Snapshot), s.inReset = false → AtRest s → s.engine.computing = some x →
    let discarded := s.engine.void = true ∨ computingPlan s ≠ some x.plan
    (s.timebase.mode = .entering → discarded) →
    let gen := (s.engine.generation + 1) % 65536
    ∃ u, exec .computationComplete s = .next u ∧ u = { s with engine := u.engine } ∧
      u.engine.again = false ∧ u.engine.void = false ∧
      (discarded → u.engine.generation = s.engine.generation ∧ u.engine.active = s.engine.active ∧
        u.engine.pendingSet = s.engine.pendingSet) ∧
      (¬ discarded → u.engine.generation = gen) ∧
      (¬ discarded → s.timebase.pendingPlan = 0 →
        u.engine.active = some (computeSet x gen) ∧ u.engine.pendingSet = s.engine.pendingSet) ∧
      (¬ discarded → s.timebase.pendingPlan ≠ 0 →
        u.engine.pendingSet = some (computeSet x gen) ∧ u.engine.active = s.engine.active) ∧
      (∀ p role, computingRole s = some (p, role) → s.engine.again = true ∨ discarded →
        u.engine.computing = some (takeSnapshot s p role)) ∧
      (s.timebase.mode = .entering →
        u.engine.computing = some (takeSnapshot s s.timebase.entry .entry)) ∧
      (s.timebase.mode = .hold ∨ ¬(s.engine.again = true ∨ discarded) → u.engine.computing = none)

/-! ### The Offset Seeker (chapter 4) -/

/-- R75 to R79: the error, the greatest lengthening and shortening, the two counts, and the seeker's choice
by the first row of the table that applies; Lcur is C + δ in every row. -/
def Obligations.SeekerChoosesTheCorrection : Prop :=
  (∀ c target offsetNow : Nat, 0 < c →
    (seekError c target offsetNow : Int) = ((target : Int) - offsetNow) % c) ∧
  (∀ h : PlanHead, maxLen h = h.c * h.dwellPct / 100) ∧
  (∀ (h : PlanHead) (w : FixedWindow),
    (w.full = true → maxShort h w = 0) ∧
    (w.full = false → 0 < w.gEff →
      maxShort h w = min (h.c * h.shortPct / 100) (h.c - w.gEff - h.sMin)) ∧
    (w.full = false → w.gEff = 0 → maxShort h w = h.c * h.shortPct / 100)) ∧
  (∀ (h : PlanHead) (w : FixedWindow) (e : Nat), e < h.c →
    let l := maxLen h
    let m := maxShort h w
    let k := seekChoice h w e
    let lengthens : SeekResult := { seek := .lengthen, delta := min e l, lcur := h.c + min e l }
    let shortens : SeekResult :=
      { seek := .shorten, delta := -(min (h.c - e) m : Nat), lcur := h.c - min (h.c - e) m }
    (e = 0 → k = { seek := .inStep, delta := 0, lcur := h.c }) ∧
    (e ≠ 0 → l = 0 → m = 0 → k = { seek := .lengthen, delta := 0, lcur := h.c }) ∧
    (e ≠ 0 → l = 0 → m ≠ 0 → k = shortens) ∧
    (e ≠ 0 → l ≠ 0 → m = 0 → k = lengthens) ∧
    (e ≠ 0 → l ≠ 0 → m ≠ 0 → (h.c - e + m - 1) / m < (e + l - 1) / l → k = shortens) ∧
    (e ≠ 0 → l ≠ 0 → m ≠ 0 → (e + l - 1) / l ≤ (h.c - e + m - 1) / m → k = lengthens))

/-- R80 with R65 and R83: the Lcur that the seeker sets lies in C - maxShort .. C + maxLen and is C + δ; a
windowed junction keeps its window and S_min within it, a full one at least C. When the correction is
the whole distance, the next local zero meets the target, and otherwise the distance that way round is
shorter by the correction. -/
def Obligations.SeekerKeepsItsBounds : Prop :=
  ∀ (h : PlanHead) (w : FixedWindow) (target offsetNow : Nat),
    0 < h.c → target < h.c → offsetNow < h.c → h.shortPct < 100 →
    (w.full = false → w.gEff + h.sMin ≤ h.c) →
    let e := seekError h.c target offsetNow
    let k := seekChoice h w e
    (k.lcur : Int) = h.c + k.delta ∧
    h.c ≤ k.lcur + maxShort h w ∧ k.lcur ≤ h.c + maxLen h ∧ 0 < k.lcur ∧
    (w.full = true → h.c ≤ k.lcur) ∧
    (w.full = false → 0 < w.gEff → w.gEff + h.sMin ≤ k.lcur) ∧
    (k.seek = .lengthen →
      seekError h.c target ((offsetNow + k.lcur) % h.c) = e - k.delta.toNat) ∧
    (k.seek = .shorten → (-k.delta).toNat = h.c - e →
      seekError h.c target ((offsetNow + k.lcur) % h.c) = 0) ∧
    (k.seek = .shorten → (-k.delta).toNat < h.c - e →
      seekError h.c target ((offsetNow + k.lcur) % h.c) = e + (-k.delta).toNat)

/-! ### The Corridor Timebase and the Window Generator (chapter 3) -/

/-- RELEASE_HOLD (R53): the three refusals in their order; otherwise the mode goes to ENTERING with the named
plan, the live bias becomes its nominal or the pin clamped into its range, one MODE_CHANGED notice is
queued and the recompute cause arrives. The rest of the Timebase and everything else stay. -/
def Obligations.HoldReleased : Prop :=
  ∀ (s : State) (t : Taken) (n : Nat), AtRest s → Admits s t (.releaseHold n) →
    (¬ PlanNumber n → RefusedWith .releaseHold s t .badArgument) ∧
    (∀ p : Fin 24, n = p.val + 1 →
      (s.timebase.mode ≠ .hold → RefusedWith .releaseHold s t .wrongMode) ∧
      (s.timebase.mode = .hold → ¬ PlanReady s p → RefusedWith .releaseHold s t .notReady) ∧
      (s.timebase.mode = .hold → PlanReady s p →
        ∃ u, exec .releaseHold s = .next u ∧
          u = { s with
            timebase := { s.timebase with mode := .entering, entry := n }
            selector := { s.selector with liveBias := u.selector.liveBias }
            engine := u.engine, line := u.line, centre := u.centre, handler := u.handler } ∧
          (s.selector.biasPin = none →
            u.selector.liveBias = s.store.plans[p].head.biasNominal) ∧
          (∀ v, s.selector.biasPin = some v → u.selector.liveBias =
            max s.store.plans[p].head.biasMin (min v s.store.plans[p].head.biasMax)) ∧
          CauseArrived s u ∧ Replied s u t .ok [] ∧ LineQuiet s u ∧
          u.handler.reset = s.handler.reset ∧
          CentreNoticed s u [.modeChanged .hold .entering n]))

/-- ENTER_HOLD (R56, with R46, R61, R111, R136, R161): WRONG_MODE in HOLD; otherwise Timebase, local
cycles and priority list take their values in HOLD, the computation in flight is marked and the
pending set emptied, the plan pin, the timer and the candidate are cleared, waiting steers are
removed, a steer in flight is marked so that it does not return when it loses, one beat is queued,
and behind the drops of every entry a MODE_CHANGED notice. The active
set, the bias pin, the live bias, the demand, spill and roster states and every counter stay. That
the reply stands before the frames of its effect is the model's reading (log 8). That the drops'
notices stand before MODE_CHANGED (log 9), that the missed-beat count saturates (log 33), and that a beat
already due is cancelled (log 35), is its choice. -/
def Obligations.HoldEntered : Prop :=
  ∀ (s : State) (t : Taken), AtRest s → Admits s t .enterHold →
    (s.timebase.mode = .hold → RefusedWith .enterHold s t .wrongMode) ∧
    (s.timebase.mode ≠ .hold →
      let seq := (s.timebase.beatSeq + 1) % 256
      ∃ u, exec .enterHold s = .next u ∧
        u = { s with
          timebase := { mode := .hold, cc := 0, c := 0, active := 0, pendingPlan := 0, entry := 0,
                        divider := none, beatSeq := seq }
          cycles := Vector.replicate 12 .held
          due := { Due.nothing with periodEnd := s.due.periodEnd }
          priority := { s.priority with list := [] }
          engine := { s.engine with
            void := s.engine.void || s.engine.computing.isSome, again := false, pendingSet := none }
          selector := { s.selector with
            planPin := none, evalTimer := none, candidate := none, count := 0 }
          line := u.line, centre := u.centre, handler := u.handler } ∧
        RepliedThen s u t
          (outcomesPlaced (.dropped .hold) s.priority.list (queuedWithReply s t)) ∧
        u.handler.reset = s.handler.reset ∧ LineKept s u ∧ FlightMarked s u ∧
        lineSteers u.line = flightSteers s.line ∧ (lineBeats u.line).getLast? = some seq ∧
        (s.line.inFlight ≠ none ∨ s.line.state ≠ .free ∨ s.line.beat = none →
          lineBeats u.line = flightBeats s.line ++ [seq] ∧
          u.line.missedBeats =
            if s.line.beat.isSome then min 65535 (s.line.missedBeats + 1)
            else s.line.missedBeats) ∧
        CentreNoticed s u
          (outcomeNotices (.dropped .hold) s.priority.list (queuedWithReply s t) ++
            [.modeChanged s.timebase.mode .hold 0]))

/-- The entry into RUN at the publication for the entry plan (R43, R49, R54, R55, R107): the
Timebase runs the entry plan from CC 0 with a beat due at once, every junction 0..N-1 is placed
part-way into a cycle whose local zero falls at its target, with its window open as the placement
gives and no correction, and is sent a steer; the evaluation timer starts in full; and a plan pin on
another plan makes that plan pending when it is READY, and is released without notice when it is
not. The beat takes the place of one that waits, which is counted as missed (R154, R158). A waiting steer
for one of 0..N-1 is replaced in its place, those for other junctions stay, and the new steers of the rest
follow at the end; in which order they follow is not stated here. That the beat is queued before the
steers, and so starts first on a FREE line, is the model's choice (log 34). That a cause raised within the
completion leads to the one computation of R44 is the model's reading (log 23). That the missed-beat
count saturates is its choice (log 33). -/
def Obligations.CorridorEntersRun : Prop :=
  ∀ (s : State) (x : Snapshot), s.inReset = false → AtRest s → s.timebase.mode = .entering →
    s.engine.computing = some x → s.engine.void = false → x.plan = s.timebase.entry →
    let p := s.timebase.entry
    let r := s.store.plan p
    let set := computeSet x ((s.engine.generation + 1) % 65536)
    let seq := (s.timebase.beatSeq + 1) % 256
    let pinned := fun q => s.selector.planPin = some q ∧ q ≠ p
    ∃ u, exec .computationComplete s = .next u ∧
      u = { s with
        timebase := { mode := .run, cc := 0, c := r.head.c, active := p,
                      pendingPlan := u.timebase.pendingPlan, entry := 0, divider := some 0,
                      beatSeq := seq }
        selector := { s.selector with
          evalTimer := some (10 * s.store.geometry.head.selectionInterval)
          planPin := u.selector.planPin }
        cycles := u.cycles, engine := u.engine, line := u.line, centre := u.centre } ∧
      u.engine.generation = set.generation ∧ u.engine.active = some set ∧
      u.engine.again = false ∧ u.engine.void = false ∧
      ((∀ q, ¬ pinned q) → u.selector.planPin = s.selector.planPin ∧
        u.timebase.pendingPlan = s.timebase.pendingPlan ∧
        u.engine.pendingSet = s.engine.pendingSet) ∧
      (∀ q, pinned q → ready s q = true → u.selector.planPin = some q ∧
        u.timebase.pendingPlan = q ∧ u.engine.pendingSet = none ∧
        u.engine.computing = some (takeSnapshot u q .pending)) ∧
      (∀ q, pinned q → ready s q = false → u.selector.planPin = none ∧
        u.timebase.pendingPlan = s.timebase.pendingPlan ∧
        u.engine.pendingSet = s.engine.pendingSet) ∧
      ((∀ q, pinned q → ready s q = false) → s.engine.again = false →
        u.engine.computing = none) ∧
      ((∀ q, pinned q → ready s q = false) → s.engine.again = true →
        ∃ q role, computingRole u = some (q, role) ∧
          u.engine.computing = some (takeSnapshot u q role)) ∧
      (∀ j : Junction, junctionCount s ≤ j.val → u.cycles[j] = s.cycles[j]) ∧
      (∀ j : Junction, j.val < junctionCount s → j.val < x.n →
        let w := fixWindow r (gatedNow s j) j.val
        let lc := modC (0 - (x.target j.val : Int)) r.head.c
        u.cycles[j] =
          { plan := p, lc, lcur := r.head.c, windowEnd := if w.full then r.head.c else w.gEff,
            windowOpen := decide (w.full = true ∨ (0 < w.gEff ∧ lc < w.gEff)), gEff := w.gEff,
            full := w.full, gate := gatedNow s j, offsetNow := x.target j.val,
            targetUsed := x.target j.val, seek := .inStep, delta := 0, lockout := 0,
            actionTaken := false, extension := none } ∧
        steerOf u j .none 0 ∈ lineSteers u.line) ∧
      flightSteers u.line = flightSteers s.line ∧
      (u.line.steers.filter fun w => decide (junctionCount s ≤ w.steer.junction.val)) =
        (s.line.steers.filter fun w => decide (junctionCount s ≤ w.steer.junction.val)) ∧
      (let places := fun l : Line => l.steers.map fun w => w.steer.junction;
        (places s.line).Nodup →
          (∀ w ∈ u.line.steers, w.steer.junction.val < junctionCount s →
            w = { steer := steerOf u w.steer.junction .none 0, losses := 0 }) ∧
          ∃ added, places u.line = places s.line ++ added ∧ added.Nodup ∧
            ∀ j : Junction, j ∈ added ↔ j.val < junctionCount s ∧ j ∉ places s.line) ∧
      lineBeats u.line = flightBeats s.line ++ [seq] ∧
      u.line.missedBeats =
        (if s.line.beat.isSome then min 65535 (s.line.missedBeats + 1) else s.line.missedBeats) ∧
      lineReplies u.line = lineReplies s.line ∧ LineKept s u ∧
      NothingServed s u ∧ CentreNoticed s u [.modeChanged .entering .run p]

/-- The cycle boundary (R59, with R48, R105, R136): without a pending plan whose set has been
published it passes without effect. Otherwise the pending plan becomes active with its cycle length
and its set, the live bias becomes its nominal or the clamped pin (a cause when it changes), the
entries whose direction the plan does not permit are dropped, and a PLAN_CHANGED notice follows
their notices. CC, the divider and every local cycle record stay. That PLAN_CHANGED stands behind
the drops' notices is the model's choice (log 9). -/
def Obligations.BoundaryTestsForSwitch : Prop :=
  ∀ s : State, s.inReset = false → AtRest s → s.due.boundary = true →
    ((s.timebase.pendingPlan = 0 ∨ s.engine.pendingSet = none) →
      exec .cycleBoundary s = .next { s with due := { s.due with boundary := false } }) ∧
    (∀ (p : Fin 24) (set : TargetSet), s.timebase.mode = .run →
      s.timebase.pendingPlan = p.val + 1 → s.engine.pendingSet = some set →
      set.plan = p.val + 1 → (s.priority.list.map fun e => (e.junction, e.tag)).Nodup →
      let r := s.store.plans[p]
      let allowed := fun e : PriorityEntry =>
        match e.direction with
        | .inbound => r.entries[e.junction].priIn
        | .outbound => r.entries[e.junction].priOut
      let dropped := s.priority.list.filter fun e => !allowed e
      ∃ u, exec .cycleBoundary s = .next u ∧
        u = { s with
          due := { s.due with boundary := false }
          timebase := { s.timebase with active := p.val + 1, c := r.head.c, pendingPlan := 0 }
          selector := { s.selector with liveBias := u.selector.liveBias }
          priority := { s.priority with list := s.priority.list.filter allowed }
          engine := u.engine, line := u.line, centre := u.centre } ∧
        (s.selector.biasPin = none → u.selector.liveBias = r.head.biasNominal) ∧
        (∀ v, s.selector.biasPin = some v →
          u.selector.liveBias = max r.head.biasMin (min v r.head.biasMax)) ∧
        CauseArrivedIf (u.selector.liveBias ≠ s.selector.liveBias)
          { s with engine := { s.engine with active := some set, pendingSet := none } } u ∧
        lineReplies u.line = lineReplies s.line ++
          outcomesPlaced (.dropped .plan) dropped (lineReplyCount s.line) ∧
        LineQuiet s u ∧ NothingServed s u ∧
        CentreNoticed s u (outcomeNotices (.dropped .plan) dropped (lineReplyCount s.line) ++
          [.planChanged s.timebase.active (p.val + 1) set.generation]))

/-- The local zero of junction j (R63 to R66, R74): the lockout count falls by one and the
action-taken flag is cleared, the window is fixed from the active plan and the gate, the seeker
places the cycle from CC and the active set's target, the window opens unless the junction is
uncoordinated, and a steer with action NONE takes the place of a waiting steer for j. A new steer stands
where the waiting one for its junction stood, and otherwise at the end, and the others stay (R154). No
other record and no other block changes. Then the junction's entries are evaluated (EvaluationDecides
says what an evaluation does); where none waits for j that is all. A steer placed while the line is
FREE, with no frame in flight and no beat, steer or reply waiting, is started at once (R155). -/
def Obligations.LocalZeroFixesCycle : Prop :=
  (∀ (st : Steer) (l : List WaitingSteer),
    ((∀ w ∈ l, w.steer.junction ≠ st.junction) →
      placeSteer st l = l ++ [{ steer := st, losses := 0 }]) ∧
    (∀ a w b, l = a ++ w :: b → (∀ x ∈ a, x.steer.junction ≠ st.junction) →
      w.steer.junction = st.junction → placeSteer st l = a ++ { steer := st, losses := 0 } :: b)) ∧
  (∀ (s : State) (j : Junction) (set : TargetSet) (e : TargetEntry),
    s.inReset = false → AtRest s → s.due.localZero[j] = true →
    s.engine.active = some set → set.entries[j.val]? = some e →
    let r := s.store.plan s.timebase.active
    let w := fixWindow r (gatedNow s j) j.val
    let k := seekChoice r.head w (seekError r.head.c e.target s.timebase.cc)
    let new : LocalCycle :=
      { plan := s.timebase.active, lc := s.cycles[j].lc, lcur := k.lcur,
        windowEnd := if w.full then k.lcur else w.gEff,
        windowOpen := decide (0 < w.gEff ∨ w.full = true), gEff := w.gEff, full := w.full,
        gate := gatedNow s j, offsetNow := s.timebase.cc, targetUsed := e.target,
        seek := k.seek, delta := k.delta, lockout := s.cycles[j].lockout - 1,
        actionTaken := false, extension := s.cycles[j].extension }
    ∃ v, exec (.localZero j.val) s = .next (evaluate j v) ∧
      ((∀ x ∈ s.priority.list, x.junction ≠ j) → evaluate j v = v) ∧
      v = { s with
        due := { s.due with localZero := s.due.localZero.set j.val false j.isLt }
        cycles := withCycle s j new, line := v.line } ∧
      OnlySteersQueued s v ∧
      lineSteers v.line = flightSteers s.line ++
        (placeSteer (steerOf v j .none 0) s.line.steers).map WaitingSteer.steer ∧
      (s.line.state = .free → s.line.inFlight = none → s.line.beat = none → s.line.steers = [] →
        s.line.replies = [] → Started v v (.steer (steerOf v j .none 0))))

/-- The window of a windowed junction closes when LC reaches its end (R62, R68): the window is
closed, an extension in force ends with window end and Lcur as it left them, and no steer is queued;
then the junction's entries are evaluated (EvaluationDecides says what an evaluation does), and
without an entry for j that is all. A full or an uncoordinated junction has no window close (R69), and an
open window below its end is left as it is. -/
def Obligations.WindowCloses : Prop :=
  ∀ (s : State) (j : Junction), s.inReset = false → AtRest s →
    (s.timebase.mode = .run → s.cycles[j].windowOpen = true → s.cycles[j].full = false →
      s.cycles[j].windowEnd ≤ s.cycles[j].lc →
      let closed := { s with
        cycles := withCycle s j { s.cycles[j] with windowOpen := false, extension := none } }
      exec (.windowClose j.val) s = .next (evaluate j closed) ∧
      ((∀ x ∈ s.priority.list, x.junction ≠ j) → evaluate j closed = closed)) ∧
    (s.cycles[j].full = true ∨ s.cycles[j].windowOpen = false ∨
        s.cycles[j].lc < s.cycles[j].windowEnd →
      exec (.windowClose j.val) s = .next s)

/-- A beat falls due (R70, R154, R158): it takes the next beat sequence value and the place of a
beat that still waits, which is counted as missed; steers, replies and counters otherwise stay. On a
FREE line with no frame in flight it is started at once (R155). That the missed-beat count saturates
at 65,535 is the model's choice (log 33). -/
def Obligations.BeatQueued : Prop :=
  ∀ s : State, s.inReset = false → s.due.beat = true →
    let seq := (s.timebase.beatSeq + 1) % 256
    ∃ u, exec .beatDue s = .next u ∧
      u = { s with due := { s.due with beat := false }
                   timebase := { s.timebase with beatSeq := seq }, line := u.line } ∧
      lineBeats u.line = flightBeats s.line ++ [seq] ∧
      u.line.missedBeats =
        (if s.line.beat.isSome then min 65535 (s.line.missedBeats + 1) else s.line.missedBeats) ∧
      LineKept s u ∧ u.line.rx = s.line.rx ∧ lineSteers u.line = lineSteers s.line ∧
      lineReplies u.line = lineReplies s.line ∧
      (s.line.state = .free → s.line.inFlight = none → Started s u (.beat seq))

/-- One ds (R58, R62, R70, R101, R110, R123, R140), once every event of the last one has been taken
(log 2): the priority clock, the report clock and the silence timer advance in every mode; CC, the
local cycles of junctions 0..N-1, the divider and the evaluation timer advance in RUN alone, and
stand otherwise. What returns to 0 makes its event due. That the report clock returns to 0 also when
R was lowered below its count is the model's reading (log 11), and that a tick waits for the events
of the last one, which EventStands lists, its choice (log 2). -/
def Obligations.DecisecondAdvances : Prop :=
  ∀ s : State, s.inReset = false → ¬ EventStands s →
    let periodEnds := 10 * s.store.geometry.head.reportPeriod ≤ s.roster.clock + 1
    ∃ u, exec .decisecondTick s = .next u ∧
      u = { s with
        priority := { s.priority with clock := (s.priority.clock + 1) % 4294967296 }
        roster := { s.roster with clock := if periodEnds then 0 else s.roster.clock + 1 }
        selector := { s.selector with
          silence := min 72000 (s.selector.silence + 1), evalTimer := u.selector.evalTimer }
        timebase := u.timebase, cycles := u.cycles, due := u.due } ∧
      (u.due.periodEnd = true ↔ periodEnds) ∧
      (s.timebase.mode ≠ .run →
        u.timebase = s.timebase ∧ u.cycles = s.cycles ∧
        u.selector.evalTimer = s.selector.evalTimer ∧
        u.due.boundary = false ∧ u.due.beat = false ∧ ∀ j : Junction, u.due.localZero[j] = false) ∧
      (s.timebase.mode = .run →
        u.timebase = { s.timebase with
          cc := if s.timebase.c ≤ s.timebase.cc + 1 then 0 else s.timebase.cc + 1
          divider := u.timebase.divider } ∧
        (s.timebase.divider = none → u.timebase.divider = none ∧ u.due.beat = false) ∧
        (∀ d, s.timebase.divider = some d →
          u.timebase.divider = some (if d = 0 then 9 else d - 1) ∧
          (u.due.beat = true ↔ d = 1)) ∧
        u.selector.evalTimer = s.selector.evalTimer.map (fun v => v - 1) ∧
        (u.due.boundary = true ↔ s.timebase.c ≤ s.timebase.cc + 1) ∧
        (∀ j : Junction, j.val < junctionCount s →
          u.cycles[j] = { s.cycles[j] with
            lc := if s.cycles[j].lcur ≤ s.cycles[j].lc + 1 then 0 else s.cycles[j].lc + 1 } ∧
          (u.due.localZero[j] = true ↔ s.cycles[j].lcur ≤ s.cycles[j].lc + 1)) ∧
        (∀ j : Junction, junctionCount s ≤ j.val →
          u.cycles[j] = s.cycles[j] ∧ u.due.localZero[j] = false))

/-- R51, R52 and R58 as an invariant that every command keeps: both copies of the store hold fields in their
ranges alone (R3, R9, R18); in HOLD and ENTERING the counter, C and the plans stand at 0; in RUN the
active plan is a plan, C is its cycle length, CC lies below C, a pending plan is another plan, and a
boundary that is due finds CC at 0. -/
def Obligations.TimebaseSafeKept : Prop :=
  ∀ (c : Instr) (s u : State), exec c s = .next u → TimebaseSafe s → TimebaseSafe u

/-! ### The Plan Selector (chapter 5) -/

/-- PIN_PLAN (R106, R52): the three refusals in their order; 0 releases the pin and keeps every plan; a plan
replaces the pin and clears the candidate, and in RUN becomes pending unless it is pending already, or
as the active plan clears the pending plan. In HOLD the Timebase is not touched. -/
def Obligations.PlanPinned : Prop :=
  ∀ (s : State) (t : Taken) (n : Nat), AtRest s → Admits s t (.pinPlan n) →
    (24 < n → RefusedWith .pinPlan s t .badArgument) ∧
    (n ≤ 24 → s.timebase.mode = .entering → RefusedWith .pinPlan s t .wrongMode) ∧
    (n = 0 → s.timebase.mode ≠ .entering →
      ∃ u, exec .pinPlan s = .next u ∧ Accepted s u t [] ∧
        u = { s with
          selector := { s.selector with planPin := none, candidate := none, count := 0 }
          line := u.line, centre := u.centre, handler := u.handler }) ∧
    (∀ p : Fin 24, n = p.val + 1 → s.timebase.mode ≠ .entering →
      (¬ PlanReady s p → RefusedWith .pinPlan s t .notReady) ∧
      (PlanReady s p →
        (s.timebase.mode = .run → s.timebase.pendingPlan ≠ s.timebase.active) →
        ∃ u, exec .pinPlan s = .next u ∧ Accepted s u t [] ∧
          u = { s with
            selector := { s.selector with planPin := some n, candidate := none, count := 0 }
            timebase := { s.timebase with pendingPlan := u.timebase.pendingPlan }
            engine := u.engine, line := u.line, centre := u.centre, handler := u.handler } ∧
          (s.timebase.mode = .hold ∨ n = s.timebase.pendingPlan ∨
              (n = s.timebase.active ∧ s.timebase.pendingPlan = 0) →
            u.timebase.pendingPlan = s.timebase.pendingPlan ∧ u.engine = s.engine) ∧
          (s.timebase.mode = .run → n = s.timebase.active → s.timebase.pendingPlan ≠ 0 →
            u.timebase.pendingPlan = 0 ∧ PendingChanged s u) ∧
          (s.timebase.mode = .run → n ≠ s.timebase.active → n ≠ s.timebase.pendingPlan →
            u.timebase.pendingPlan = n ∧ PendingChanged s u)))

/-- PIN_BIAS (R108, R109): a value above 100 that is not the release (255) is refused; otherwise the
pin takes the value as given, or none, in every mode. In ENTERING and RUN the live bias becomes the
value clamped into the entry or active plan's range, or at a release that plan's nominal, and a
cause arrives when it changes, or when a pending plan stands and the pin changes or is released.
That a release raises a cause whenever a pending plan stands is the model's reading (log 24). -/
def Obligations.BiasPinned : Prop :=
  ∀ (s : State) (t : Taken) (v : Nat), AtRest s → Admits s t (.pinBias v) →
    (100 < v → v ≠ 255 → RefusedWith .pinBias s t .badArgument) ∧
    (v ≤ 100 ∨ v = 255 →
      ∃ u, exec .pinBias s = .next u ∧ Accepted s u t [] ∧
        u = { s with
          selector := { s.selector with
            biasPin := if v = 255 then none else some v, liveBias := u.selector.liveBias }
          engine := u.engine, line := u.line, centre := u.centre, handler := u.handler } ∧
        (s.timebase.mode = .hold →
          u.selector.liveBias = s.selector.liveBias ∧ u.engine = s.engine) ∧
        (∀ p : Fin 24,
          (s.timebase.mode = .entering ∧ s.timebase.entry = p.val + 1) ∨
            (s.timebase.mode = .run ∧ s.timebase.active = p.val + 1) →
          (v = 255 → u.selector.liveBias = s.store.plans[p].head.biasNominal) ∧
          (v ≤ 100 → u.selector.liveBias =
            max s.store.plans[p].head.biasMin (min v s.store.plans[p].head.biasMax)) ∧
          CauseArrivedIf
            (u.selector.liveBias ≠ s.selector.liveBias ∨
              (s.timebase.mode = .run ∧ s.timebase.pendingPlan ≠ 0 ∧
                (v = 255 ∨ s.selector.biasPin ≠ some v))) s u))

/-- An evaluation of the Plan Selector (R101 to R104): the timer starts again in full; without a
bias pin the live bias moves toward its target by at most 10 and not past it; without a plan pin the
first matching entry moves the candidate and its count by the first row that applies, and a count
that reaches the entry's persistence makes the plan pending. The causes of both steps arrive as one.
That an evaluation which moves the bias and proposes a plan with the engine IDLE starts one
computation, for the proposed plan, is the model's choice (log 32). -/
def Obligations.SelectorEvaluates : Prop :=
  ∀ s : State, s.inReset = false → AtRest s → s.timebase.mode = .run →
    s.selector.evalTimer = some 0 →
    ∃ u, exec .evaluation s = .next u ∧
      u = { s with
        selector := { s.selector with
          evalTimer := some (10 * s.store.geometry.head.selectionInterval)
          liveBias := u.selector.liveBias, candidate := u.selector.candidate
          count := u.selector.count }
        timebase := { s.timebase with pendingPlan := u.timebase.pendingPlan }
        engine := u.engine } ∧
      (∀ v, s.selector.biasPin = some v → u.selector.liveBias = s.selector.liveBias) ∧
      (s.selector.biasPin = none →
        (s.selector.liveBias ≤ biasTarget s →
          u.selector.liveBias = min (biasTarget s) (s.selector.liveBias + 10)) ∧
        (biasTarget s ≤ s.selector.liveBias →
          u.selector.liveBias = max (biasTarget s) (s.selector.liveBias - 10))) ∧
      (u.timebase.pendingPlan = s.timebase.pendingPlan →
        CauseArrivedIf (u.selector.liveBias ≠ s.selector.liveBias) s u) ∧
      (s.selector.planPin.isSome = true →
        u.selector.candidate = s.selector.candidate ∧ u.selector.count = s.selector.count ∧
        u.timebase.pendingPlan = s.timebase.pendingPlan) ∧
      (s.selector.planPin = none → (¬ ∃ e, FirstMatch s e) →
        u.selector.candidate = none ∧ u.selector.count = 0 ∧
        u.timebase.pendingPlan = s.timebase.pendingPlan) ∧
      (∀ e, s.selector.planPin = none → FirstMatch s e →
        let n := if s.selector.candidate = some e.plan then s.selector.count + 1 else 1
        let known := e.plan = s.timebase.active ∨ e.plan = s.timebase.pendingPlan
        (known → u.selector.candidate = none ∧ u.selector.count = 0 ∧
          u.timebase.pendingPlan = s.timebase.pendingPlan) ∧
        (¬ known → n < e.persistence → u.selector.candidate = some e.plan ∧
          u.selector.count = n ∧ u.timebase.pendingPlan = s.timebase.pendingPlan) ∧
        (¬ known → e.persistence ≤ n → u.selector.candidate = none ∧ u.selector.count = 0 ∧
          u.timebase.pendingPlan = e.plan ∧ PendingChanged s u))

/-- The demand indices (R98, R99): the counted junctions are those of 0..N-1 in LINKED or DEGRADED; the
indices are their truncated means, 0 without one; the bias target is the inbound part of the demand in
per cent rounded half up, or the nominal without demand, clamped into the active plan's range; and the
dominance is judged before the clamp, in every mode, BALANCED without demand. -/
def Obligations.DemandIndicesAndTarget : Prop :=
  ∀ s : State,
    (∀ j : Junction, j ∈ countedJunctions s ↔ j.val < junctionCount s ∧
      (s.roster.junctions[j].state = .linked ∨ s.roster.junctions[j].state = .degraded)) ∧
    (countedJunctions s).Nodup ∧
    demandIn s =
      ((countedJunctions s).map fun j => s.demand.junctions[j].sIn).sum /
        (countedJunctions s).length ∧
    demandOut s =
      ((countedJunctions s).map fun j => s.demand.junctions[j].sOut).sum /
        (countedJunctions s).length ∧
    (countedJunctions s = [] → demandIn s = 0 ∧ demandOut s = 0) ∧
    totalDemand s = (demandIn s + demandOut s) / 2 ∧
    (let share := (100 * demandIn s + (demandIn s + demandOut s) / 2) / (demandIn s + demandOut s);
      (demandIn s + demandOut s = 0 → dominanceNow s = .balanced) ∧
      (0 < demandIn s + demandOut s → share ≤ 100 ∧
        (dominanceNow s = .inbound ↔ 55 ≤ share) ∧ (dominanceNow s = .outbound ↔ share ≤ 45) ∧
        (dominanceNow s = .balanced ↔ 45 < share ∧ share < 55))) ∧
    (∀ p : Fin 24, s.timebase.active = p.val + 1 →
      let h := s.store.plans[p].head
      let i := demandIn s
      let o := demandOut s
      let share := (100 * i + (i + o) / 2) / (i + o)
      (i + o = 0 → biasTarget s = max h.biasMin (min h.biasNominal h.biasMax)) ∧
      (0 < i + o → biasTarget s = max h.biasMin (min share h.biasMax)))

/-- The lapse of the pins (R110): once the silence timer stands at a pin lapse other than 0 with a pin set,
both pins and the candidate are cleared, the live bias takes the value a release gives it, and a
PIN_LAPSED notice names the pins; the pending and the active plan stay. A cause arrives as R109 gives for
a release, whichever pin was set (log 24). With a lapse of 0, without a pin, or with the timer below the
lapse or already beyond it (log 22) nothing is done. -/
def Obligations.PinsLapse : Prop :=
  ∀ s : State, s.inReset = false → AtRest s →
    (s.store.geometry.head.pinLapse = 0 ∨ (s.selector.planPin = none ∧ s.selector.biasPin = none) ∨
        s.selector.silence ≠ 600 * s.store.geometry.head.pinLapse →
      exec .pinLapse s = .next s) ∧
    (s.store.geometry.head.pinLapse ≠ 0 →
      s.selector.silence = 600 * s.store.geometry.head.pinLapse →
      s.selector.planPin.isSome = true ∨ s.selector.biasPin.isSome = true →
      ∃ u, exec .pinLapse s = .next u ∧
        u = { s with
          selector := { s.selector with
            planPin := none, biasPin := none, candidate := none, count := 0
            liveBias := u.selector.liveBias }
          engine := u.engine, centre := u.centre } ∧
        (s.timebase.mode = .hold →
          u.selector.liveBias = s.selector.liveBias ∧ u.engine = s.engine) ∧
        (∀ p : Fin 24,
          (s.timebase.mode = .entering ∧ s.timebase.entry = p.val + 1) ∨
            (s.timebase.mode = .run ∧ s.timebase.active = p.val + 1) →
          u.selector.liveBias = s.store.plans[p].head.biasNominal ∧
          CauseArrivedIf
            (u.selector.liveBias ≠ s.selector.liveBias ∨
              (s.timebase.mode = .run ∧ s.timebase.pendingPlan ≠ 0)) s u) ∧
        NothingServed s u ∧
        CentreNoticed s u [.pinLapsed s.selector.planPin s.selector.biasPin])

/-! ### Reports: Roster, Demand Monitor, Spillback Gate (chapters 5, 6 and 8) -/

/-- REPORT (R142, R143 with R93, R95, R96, R114, R116, R136, R148): the third report of a period is
THROTTLED and changes nothing; otherwise the roster hears the junction, its occupancies are seeded
after SILENT or LOST and smoothed otherwise, each link-direction it measures takes at most one level
step and each one whose exit it reports one spill step, its entries are dropped when it does not
follow, and the notices follow in that order with the entry into LINKED last. The causes arrive as
one. The order of an inbound and an outbound spill notice of one report is the model's choice (log
9), and the reply before the frames its reading (log 8). -/
def Obligations.ReportTaken : Prop :=
  ∀ (s : State) (t : Taken) (b : ReportBody) (j : Junction), AtRest s → Admits s t (.report b) →
    t.sender = .junction j →
    (2 ≤ s.roster.junctions[j].reports → RefusedWith .report s t .throttled) ∧
    (s.roster.junctions[j].reports < 2 →
      let old := s.roster.junctions[j]
      let n := junctionCount s
      let geo := s.store.geometry.head
      let seeds := old.state = .silent ∨ old.state = .lost
      let held := s.demand.junctions[j]
      let sIn := if seeds then min 1000 b.inOccupancy
        else (3 * held.sIn + min 1000 b.inOccupancy + 2) / 4
      let sOut := if seeds then min 1000 b.outOccupancy
        else (3 * held.sOut + min 1000 b.outOccupancy + 2) / 4
      let after : RosterState := if old.state = .lost then .degraded
        else if old.state = .absent then .absent else .linked
      let dropped := if b.following then []
        else s.priority.list.filter fun e => decide (e.junction = j)
      ∃ u, exec .report s = .next u ∧
        u = { s with
          roster := { s.roster with
            junctions := s.roster.junctions.set j.val
              { state := after, misses := 0, reports := old.reports + 1,
                following := b.following } j.isLt }
          demand := { u.demand with
            junctions := s.demand.junctions.set j.val
              { sIn, sOut, inVolume := b.inVolume, outVolume := b.outVolume } j.isLt }
          gate := u.gate
          priority := { s.priority with
            list := if b.following then s.priority.list
              else s.priority.list.filter fun e => decide (e.junction ≠ j) }
          engine := u.engine, line := u.line, centre := u.centre, handler := u.handler } ∧
        (∀ k : LinkIndex,
          (if k.val + 1 = j.val ∧ j.val < n
            then LevelMoved geo s.demand.levelIn[k] sIn u.demand.levelIn[k]
            else u.demand.levelIn[k] = s.demand.levelIn[k]) ∧
          (if k.val = j.val ∧ j.val + 1 < n
            then LevelMoved geo s.demand.levelOut[k] sOut u.demand.levelOut[k]
            else u.demand.levelOut[k] = s.demand.levelOut[k]) ∧
          (if k.val = j.val ∧ j.val + 1 < n
            then SpillMoved geo.holdOff s.gate.inbound[k] b.inExit u.gate.inbound[k]
            else u.gate.inbound[k] = s.gate.inbound[k]) ∧
          (if k.val + 1 = j.val ∧ j.val < n
            then SpillMoved geo.holdOff s.gate.outbound[k] b.outExit u.gate.outbound[k]
            else u.gate.outbound[k] = s.gate.outbound[k])) ∧
        CauseArrivedIf
          (old.following ≠ b.following ∨ old.state = .lost ∨
            (∃ k : LinkIndex, u.demand.levelIn[k] ≠ s.demand.levelIn[k] ∨
              u.demand.levelOut[k] ≠ s.demand.levelOut[k] ∨
              u.gate.inbound[k].isSet ≠ s.gate.inbound[k].isSet ∨
              u.gate.outbound[k].isSet ≠ s.gate.outbound[k].isSet)) s u ∧
        RepliedThen s u t (outcomesPlaced (.dropped .notFollowing) dropped (queuedWithReply s t)) ∧
        LineQuiet s u ∧ u.handler.reset = s.handler.reset ∧
        CentreNoticed s u
          ((allLinks.flatMap fun k =>
            spillNotice .inbound k s.gate.inbound[k] u.gate.inbound[k] j.val
              (if b.inExit then .flag else .clearRun)) ++
          (allLinks.flatMap fun k =>
            spillNotice .outbound k s.gate.outbound[k] u.gate.outbound[k] j.val
              (if b.outExit then .flag else .clearRun)) ++
          outcomeNotices (.dropped .notFollowing) dropped (queuedWithReply s t) ++
          (if after = .linked ∧ old.state ≠ .linked
            then [.junctionState j s.store.geometry.entries[j].address old.state .linked 0]
            else [])))

/-- The period end (R141, R145, R97, R120): for every junction 0..N-1 the misses rise by one without
a report, up to 15, the state moves by the first row of the table that applies, and the count
returns to 0. A junction that enters LOST has the levels it measures set to 0, the link-directions
it reports CLEAR and its entries dropped, and raises a cause, several of them one arrival; what
other junctions measure, report and hold stays. The OUTCOME frames and the notices of the losses
follow. That they follow junction after junction as the index rises, and for each its spill notices,
inbound before outbound, then its drops, then its JUNCTION_STATE, is the model's choice (log 9):
R145 lists the effects without an order among their notices. -/
def Obligations.PeriodEndsForEveryJunction : Prop :=
  ∀ s : State, s.inReset = false → AtRest s → s.due.periodEnd = true →
    let n := junctionCount s
    let misses := fun j : Junction => if s.roster.junctions[j].reports = 0
      then min 15 (s.roster.junctions[j].misses + 1) else s.roster.junctions[j].misses
    ∃ u, exec .periodEnd s = .next u ∧
      u = { s with
        due := { s.due with periodEnd := false }
        roster := { s.roster with junctions := u.roster.junctions }
        demand := { s.demand with levelIn := u.demand.levelIn, levelOut := u.demand.levelOut }
        gate := u.gate
        priority := { s.priority with list := u.priority.list }
        engine := u.engine, line := u.line, centre := u.centre } ∧
      (∀ j : Junction, n ≤ j.val → u.roster.junctions[j] = s.roster.junctions[j]) ∧
      (∀ j : Junction, j.val < n →
        (EntersLost s j → u.roster.junctions[j] =
          { s.roster.junctions[j] with state := .lost, misses := misses j, reports := 0 }) ∧
        (¬ EntersLost s j → s.roster.junctions[j].state = .linked → 2 ≤ misses j →
          u.roster.junctions[j] = { s.roster.junctions[j] with
            state := .degraded, misses := misses j, reports := 0 }) ∧
        (¬ EntersLost s j → s.roster.junctions[j].state ≠ .linked ∨ misses j < 2 →
          u.roster.junctions[j] = { s.roster.junctions[j] with misses := misses j, reports := 0 })) ∧
      (∀ k : LinkIndex,
        (k.val + 1 < n → EntersLost s k.succ → u.demand.levelIn[k] = 0 ∧
          u.gate.outbound[k] = { isSet := false, run := 0 }) ∧
        (n ≤ k.val + 1 ∨ ¬ EntersLost s k.succ → u.demand.levelIn[k] = s.demand.levelIn[k] ∧
          u.gate.outbound[k] = s.gate.outbound[k]) ∧
        (k.val + 1 < n → EntersLost s k.castSucc → u.demand.levelOut[k] = 0 ∧
          u.gate.inbound[k] = { isSet := false, run := 0 }) ∧
        (n ≤ k.val + 1 ∨ ¬ EntersLost s k.castSucc → u.demand.levelOut[k] = s.demand.levelOut[k] ∧
          u.gate.inbound[k] = s.gate.inbound[k])) ∧
      (∀ e, e ∈ u.priority.list ↔ e ∈ s.priority.list ∧ ¬ EntersLost s e.junction) ∧
      u.priority.list.Sublist s.priority.list ∧
      CauseArrivedIf (∃ j, EntersLost s j) s u ∧ LineQuiet s u ∧ NothingServed s u ∧
      ((∀ j, ¬ EntersLost s j) → u.line = s.line ∧ u.centre = s.centre) ∧
      (∀ lost : List Junction, lost.Pairwise (· < ·) → (∀ j, j ∈ lost ↔ EntersLost s j) →
        lineReplies u.line = lineReplies s.line ++
          outcomesPlaced (.dropped .lost)
            (lost.flatMap fun j => s.priority.list.filter fun e => decide (e.junction = j))
            (lineReplyCount s.line) ∧
        CentreNoticed s u (lossesNotices s u lost (lineReplyCount s.line)))

/-! ### The Priority Unit (chapter 7) -/

/-- PRIORITY_CALL (R125, R126): the refusals in their order; an admitted call adds an entry at the
end, or refreshes the entry with its key in its place, with the ETA clamped to 600 and the frame's
source, and the reply is queued; then the junction's entries are evaluated, the new one behind those
that wait (R127; EvaluationDecides says what an evaluation does), and where its first tests fail
every entry stays and nothing else changes. That the reply stands before the frames of the
evaluation is the model's reading (log 8). -/
def Obligations.CallListed : Prop :=
  ∀ (s : State) (t : Taken) (b : CallBody), AtRest s → Admits s t (.priorityCall b) →
    (b.tag = 0 ∨ junctionCount s ≤ b.junction → RefusedWith .priorityCall s t .badArgument) ∧
    (∀ j : Junction, b.junction = j.val → j.val < junctionCount s → b.tag ≠ 0 →
      let permitted := permits (s.store.plan s.timebase.active) j b.direction
      let heard := s.roster.junctions[j].state ≠ .lost ∧ s.roster.junctions[j].following = true
      let listed := ∃ e ∈ s.priority.list, e.junction = j ∧ e.tag = b.tag
      let entry : PriorityEntry :=
        { junction := j, direction := b.direction, tag := b.tag
          source := if t.port = .centre then .centre else .station (addressOf t.frame.src)
          due := (s.priority.clock + min b.eta 600) % 4294967296
          expiry := (s.priority.clock + 10 * s.store.geometry.head.priorityExpiry) % 4294967296 }
      (s.timebase.mode ≠ .run → RefusedWith .priorityCall s t .wrongMode) ∧
      (s.timebase.mode = .run → permitted = false → RefusedWith .priorityCall s t .badArgument) ∧
      (s.timebase.mode = .run → permitted = true → ¬ heard →
        RefusedWith .priorityCall s t .notReady) ∧
      (s.timebase.mode = .run → permitted = true → heard → ¬ listed →
        8 ≤ s.priority.list.length → RefusedWith .priorityCall s t .listFull) ∧
      (s.timebase.mode = .run → permitted = true → heard →
        listed ∨ s.priority.list.length < 8 →
        ∃ v, exec .priorityCall s = .next (evaluate j v) ∧ (¬ MayGrant s j → evaluate j v = v) ∧
          Accepted s v t [] ∧
          v = { s with
            priority := { s.priority with list := v.priority.list }
            line := v.line, centre := v.centre, handler := v.handler } ∧
          (¬ listed → v.priority.list = s.priority.list ++ [entry]) ∧
          (listed → v.priority.list = s.priority.list.map fun e =>
            if e.junction = j ∧ e.tag = b.tag then entry else e)))

/-- The evaluation of a junction (R127, R128). The decision for a vehicle that is r ds away goes by
the first row that applies: an open window that is full or lasts that long grants NONE; one that
X_max reaches grants EXTEND by the lesser of X_max and the shortfall and 20 ds; a closed window
grants EARLY by the least of E_max, the cycle left after the arrival and what keeps Lcur above LC
and S_min of side time, when that is at least 1; anything else waits. Where the first tests fail
nothing changes. Otherwise the waiting entries of the junction are taken in list order: a NONE grant
goes on to the next, an EXTEND or EARLY grant ends the evaluation, and one that is not serviceable
waits; each granted entry leaves the list with its OUTCOME frame and notice, and EXTEND and EARLY
move the record and queue a steer, in the place of one that waits for the junction or at the end (R154).
That the record plan's limits are read as the plan stands then is
the model's reading (log 25). -/
def Obligations.EvaluationDecides : Prop :=
  (∀ (h : PlanHead) (c : LocalCycle) (r : Nat),
    let left := c.windowEnd - c.lc
    let a : Int := min (h.eMax : Int)
      (min ((c.lcur : Int) - c.lc - r) ((c.lcur : Int) - max (c.lc + 1) (c.windowEnd + h.sMin)))
    (c.windowOpen = true → c.full = true ∨ r ≤ left → decideEntry h c r = .serve) ∧
    (c.windowOpen = true → c.full = false → left < r → 0 < h.xMax → r ≤ left + h.xMax →
      decideEntry h c r = .extend (min h.xMax (r - left + 20))) ∧
    (c.windowOpen = true → c.full = false → left < r → (h.xMax = 0 ∨ left + h.xMax < r) →
      decideEntry h c r = .wait) ∧
    (c.windowOpen = false → 0 < c.gEff → r < c.lcur - c.lc → 1 ≤ a →
      decideEntry h c r = .early a.toNat) ∧
    (c.windowOpen = false → c.gEff = 0 ∨ c.lcur - c.lc ≤ r ∨ a < 1 →
      decideEntry h c r = .wait)) ∧
  (∀ (s : State) (j : Junction), (s.priority.list.map fun e => (e.junction, e.tag)).Nodup →
    let u := evaluate j s
    let c := s.cycles[j]
    let lockout := (s.store.plan c.plan).head.lockout
    let grants := grantsMade s j
    (¬ MayGrant s j → u = s) ∧
    (MayGrant s j →
      u = { s with
        cycles := u.cycles
        priority := { s.priority with
          list := s.priority.list.filter fun e => !decide (e ∈ grants.map Prod.fst) }
        line := u.line, centre := u.centre } ∧
      lineReplies u.line = lineReplies s.line ++ grantFrames grants (lineReplyCount s.line) ∧
      CentreNoticed s u (grantNotices grants (lineReplyCount s.line)) ∧ NothingServed s u ∧
      LineKept s u ∧ u.line.missedBeats = s.line.missedBeats ∧
      lineBeats u.line = lineBeats s.line ∧
      match grants.getLast? with
      | some (e, .granted .extend x) =>
        u.cycles = withCycle s j { c with
          windowEnd := c.windowEnd + x, lcur := c.lcur + x
          extension := some { tag := e.tag, amount := x }, actionTaken := true, lockout } ∧
        SteerQueued s u (steerOf u j .extend x)
      | some (_, .granted .early a) =>
        u.cycles = withCycle s j { c with
          lcur := c.lcur - a, actionTaken := true, lockout } ∧
        SteerQueued s u (steerOf u j .early a)
      | _ => u.cycles = s.cycles ∧ lineSteers u.line = lineSteers s.line))

/-- A call that is granted at once (R126 to R131), where no other entry for the junction waits: NONE
serves it and changes no record; EXTEND lengthens window end and Lcur by x and records the
extension; EARLY shortens Lcur alone; both set the action-taken flag and the record plan's lockout
and queue a steer, in the place of one that waits for the junction or at the end (R154). The OUTCOME frame follows the reply while the REPLY queue has a place, the notice
says so, and the entry has left the list. A call that is not serviceable waits at the end of the
list. That the reply stands before the frames of its effect is the model's reading (log 8). That the
record plan's limits are read as the plan stands at the grant is its reading too (log 25). -/
def Obligations.CallGranted : Prop :=
  ∀ (s : State) (t : Taken) (b : CallBody) (j : Junction), AtRest s → Admits s t (.priorityCall b) →
    b.junction = j.val → j.val < junctionCount s → b.tag ≠ 0 → MayGrant s j →
    permits (s.store.plan s.timebase.active) j b.direction = true →
    s.roster.junctions[j].state ≠ .lost → s.priority.list.length < 8 →
    (∀ e ∈ s.priority.list, e.junction ≠ j) → s.priority.clock < 4294967296 →
    let source : Source := if t.port = .centre then .centre else .station (addressOf t.frame.src)
    let entry : PriorityEntry :=
      { junction := j, direction := b.direction, tag := b.tag, source
        due := (s.priority.clock + min b.eta 600) % 4294967296
        expiry := (s.priority.clock + 10 * s.store.geometry.head.priorityExpiry) % 4294967296 }
    let h := (s.store.plan s.cycles[j].plan).head
    let c := s.cycles[j]
    let leaves := fun (u : State) (o : CallOutcome) =>
      RepliedThen s u t (outcomesPlaced o [entry] (queuedWithReply s t)) ∧
      CentreNoticed s u (outcomeNotices o [entry] (queuedWithReply s t)) ∧
      LineKept s u ∧ lineBeats u.line = lineBeats s.line ∧
      u.line.missedBeats = s.line.missedBeats ∧ u.handler.reset = s.handler.reset
    ∃ u, exec .priorityCall s = .next u ∧
      match decideEntry h c (min b.eta 600) with
      | .wait => Accepted s u t [] ∧
        u = { s with priority := { s.priority with list := s.priority.list ++ [entry] }
                     line := u.line, centre := u.centre, handler := u.handler }
      | .serve => leaves u (.granted .none 0) ∧ lineSteers u.line = lineSteers s.line ∧
        u = { s with line := u.line, centre := u.centre, handler := u.handler }
      | .extend x => leaves u (.granted .extend x) ∧ SteerQueued s u (steerOf u j .extend x) ∧
        u = { s with
          cycles := withCycle s j { c with
            windowEnd := c.windowEnd + x, lcur := c.lcur + x
            extension := some { tag := b.tag, amount := x }
            actionTaken := true, lockout := h.lockout }
          line := u.line, centre := u.centre, handler := u.handler }
      | .early a => leaves u (.granted .early a) ∧ SteerQueued s u (steerOf u j .early a) ∧
        u = { s with
          cycles := withCycle s j { c with
            lcur := c.lcur - a, actionTaken := true, lockout := h.lockout }
          line := u.line, centre := u.centre, handler := u.handler }

/-- PRIORITY_CANCEL (R133, R134): a tag 0 or a junction beyond N is refused; a listed entry leaves
CANCELLED, with its frame to its own source; without one the extension that holds the tag is cut,
below g_eff back to g_eff and its whole cycle, and from g_eff on at the LC of the moment, which
closes the window; each cut queues a steer, in the place of one that waits for the junction or at the end
(R154), and a notice with the decrease of Lcur (log 26).
Otherwise the answer is NOT_FOUND. That the reply stands before the frames of its effect is the
model's reading (log 8). -/
def Obligations.CancelWithdrawsOrCuts : Prop :=
  ∀ (s : State) (t : Taken) (b : CancelBody), AtRest s → Admits s t (.priorityCancel b) →
    (b.tag = 0 ∨ junctionCount s ≤ b.junction → RefusedWith .priorityCancel s t .badArgument) ∧
    (∀ j : Junction, b.junction = j.val → j.val < junctionCount s → b.tag ≠ 0 →
      let c := s.cycles[j]
      let listed := fun e : PriorityEntry => e.junction = j ∧ e.tag = b.tag
      let cutTo := fun (u : State) (amount : Nat) (record : LocalCycle) =>
        u = { s with cycles := withCycle s j record
                     line := u.line, centre := u.centre, handler := u.handler } ∧
        Replied s u t .ok [] ∧ CentreNoticed s u [.priorityCut b.tag amount] ∧
        SteerQueued s u (steerOf u j .cut amount) ∧ u.line.missedBeats = s.line.missedBeats ∧
        LineKept s u ∧ lineBeats u.line = lineBeats s.line ∧ u.handler.reset = s.handler.reset
      (∀ e ∈ s.priority.list, listed e → (∀ e' ∈ s.priority.list, listed e' → e' = e) →
        ∃ u, exec .priorityCancel s = .next u ∧
          u = { s with
            priority := { s.priority with
              list := s.priority.list.filter fun e => !decide (listed e) }
            line := u.line, centre := u.centre, handler := u.handler } ∧
          RepliedThen s u t (outcomesPlaced .cancelled [e] (queuedWithReply s t)) ∧
          CentreNoticed s u (outcomeNotices .cancelled [e] (queuedWithReply s t)) ∧
          LineQuiet s u ∧ u.handler.reset = s.handler.reset) ∧
      ((∀ e ∈ s.priority.list, ¬ listed e) → (∀ x, c.extension = some x → x.tag ≠ b.tag) →
        RefusedWith .priorityCancel s t .notFound) ∧
      (∀ x, (∀ e ∈ s.priority.list, ¬ listed e) → c.extension = some x → x.tag = b.tag →
        (c.lc < c.gEff → ∃ u, exec .priorityCancel s = .next u ∧ cutTo u x.amount { c with
          windowEnd := c.gEff, lcur := c.lcur - x.amount, extension := none }) ∧
        (c.gEff ≤ c.lc → c.actionTaken = true →
          ∃ u, exec .priorityCancel s = .next u ∧ cutTo u (c.windowEnd - c.lc) { c with
            windowEnd := c.lc, lcur := c.lcur - (c.windowEnd - c.lc), windowOpen := false
            extension := none })))

/-- The expiry of an entry (R135): once the priority clock has reached its expiry time it leaves EXPIRED with
its frame and notice, and the others keep their order; before that, up to the 1200 ds that an entry can
lie ahead, nothing happens. -/
def Obligations.EntryExpires : Prop :=
  ∀ (s : State) (e : PriorityEntry), s.inReset = false → e ∈ s.priority.list →
    (∀ e' ∈ s.priority.list, e'.junction = e.junction → e'.tag = e.tag → e' = e) →
    s.priority.clock < 4294967296 →
    (∀ d, 0 < d → d ≤ 1200 → e.expiry = (s.priority.clock + d) % 4294967296 →
      exec (.priorityExpiry e.junction.val e.tag) s = .next s) ∧
    (e.expiry = s.priority.clock →
      ∃ u, exec (.priorityExpiry e.junction.val e.tag) s = .next u ∧
        u = { s with
          priority := { s.priority with
            list := s.priority.list.filter fun e' =>
              !(decide (e'.junction = e.junction) && decide (e'.tag = e.tag)) }
          line := u.line, centre := u.centre } ∧
        lineReplies u.line =
          lineReplies s.line ++ outcomesPlaced .expired [e] (lineReplyCount s.line) ∧
        LineQuiet s u ∧ NothingServed s u ∧
        CentreNoticed s u (outcomeNotices .expired [e] (lineReplyCount s.line)))

/-- R124 and R135 as an invariant that every command keeps: at most 8 entries, no two with one key, and none
outside RUN. -/
def Obligations.PriorityListKept : Prop :=
  ∀ (c : Instr) (s u : State), exec c s = .next u → PriorityBounded s → PriorityBounded u

/-! ### The two ports (chapters 9 and 10) -/

/-- The line state (R151): FREE goes BUSY when the line goes dominant, BUSY goes FAULT with a notice
after more than 22 dominant bit times, and BUSY or FAULT goes FREE after 12 recessive ones, with a
notice out of FAULT; a framing fault is counted when the gap cuts short a frame that the unit takes
(R152, R153), and for no other frame; an event that has no row changes nothing. That the unit tells a frame
of its own, which it does not take, by the characters of the frame in flight is the model's choice, and
the framing-fault clause rests on it (log 18). -/
def Obligations.LineStateFollowsLevels : Prop :=
  ∀ s : State, s.inReset = false →
    exec .lineBusy s = .next { s with line := { s.line with
      state := if s.line.state = .free then .busy else s.line.state } } ∧
    (s.line.state ≠ .busy → exec .lineFault s = .next s) ∧
    (s.line.state = .busy → ∃ u, exec .lineFault s = .next u ∧
      u = { s with line := { s.line with state := .fault }, centre := u.centre } ∧
      NothingServed s u ∧ CentreNoticed s u [.lineState .fault]) ∧
    (∀ cut, s.line.state = .free → exec (.lineFree cut) s = .next s) ∧
    (∀ cut, s.line.state ≠ .free → ∃ u, exec (.lineFree cut) s = .next u ∧
      u = { s with line := u.line, centre := u.centre } ∧ u.line.state = .free ∧
      (Takes s cut ∧ assemble cut = .incomplete →
        u.line.errors = { s.line.errors with framing := min 65535 (s.line.errors.framing + 1) }) ∧
      (¬(Takes s cut ∧ assemble cut = .incomplete) → u.line.errors = s.line.errors) ∧
      u.line.rx = s.line.rx ∧ lineBeats u.line = lineBeats s.line ∧
      lineSteers u.line = lineSteers s.line ∧ lineReplies u.line = lineReplies s.line ∧
      u.line.missedBeats = s.line.missedBeats ∧
      u.line.arbitrationDrops = s.line.arbitrationDrops ∧ CreditsKept s u ∧
      (s.line.state = .busy → u.centre = s.centre) ∧
      (s.line.state = .fault → NothingServed s u ∧ CentreNoticed s u [.lineState .free]))

/-- The choice of a frame as the line becomes FREE with none in flight (R155): a beat first, the
credits untouched; then the oldest steer and the oldest reply or OUTCOME frame by their credits;
when the credits bar every waiting frame both are refilled to 3 and 1 and the choice is made again.
The frame is formed from the state at its start (R71, R73); with one in flight nothing is started.
And a frame placed while the line is FREE with none in flight does not wait there: every command
keeps it so that on such a line nothing waits, where the unit's own frame does not end on a line still
FREE. That the line stays FREE until its dominant level is reported is the model's reading (log 21). -/
def Obligations.LineChoosesAFrame : Prop :=
  (∀ s : State, s.inReset = false → s.line.state = .busy →
    let l := { s.line with state := LineState.free }
    let starts := fun (item : LineItem) (losses : Nat) (l' : Line) =>
      exec (.lineFree []) s = .next { s with line := { l' with
        inFlight := some { item, losses, orphaned := false, chars := (lineFrame s item).chars } } }
    let refill := fun l' : Line => { l' with steerCredit := 3, replyCredit := 1 }
    (s.line.inFlight ≠ none → exec (.lineFree []) s = .next { s with line := l }) ∧
    (s.line.inFlight = none →
      (∀ b, s.line.beat = some b → starts (.beat b.seq) b.losses { l with beat := none }) ∧
      (s.line.beat = none →
        (∀ w rest, s.line.steers = w :: rest → 0 < s.line.steerCredit →
          starts (.steer w.steer) w.losses { l with steers := rest }) ∧
        (∀ r rest, s.line.replies = r :: rest → s.line.steers = [] ∨ s.line.steerCredit = 0 →
          0 < s.line.replyCredit →
          starts (.queued r.item) r.losses { l with replies := rest }) ∧
        (∀ w rest, s.line.steers = w :: rest → s.line.steerCredit = 0 →
          s.line.replies = [] ∨ s.line.replyCredit = 0 →
          starts (.steer w.steer) w.losses (refill { l with steers := rest })) ∧
        (∀ r rest, s.line.replies = r :: rest → s.line.steers = [] → s.line.replyCredit = 0 →
          starts (.queued r.item) r.losses (refill { l with replies := rest })) ∧
        (s.line.steers = [] → s.line.replies = [] →
          exec (.lineFree []) s = .next { s with line := l })))) ∧
  (∀ (c : Instr) (s u : State), exec c s = .next u → LineGoes s →
    (c = .frameComplete ∨ c = .arbitrationLoss → s.line.state ≠ .free) → LineGoes u)

/-- How a frame leaves the line (R156, R157, R158): a complete frame leaves the port and spends a
credit of its queue, a beat none; a lost frame with fewer than 16 losses returns with its count to
the head of its queue, unless a newer beat waits (missed) or a steer for the same junction waits (no
count); the sixteenth loss discards it with a drop counted, a beat also as missed. A steer whose
queue was emptied under it is discarded without a count (R161; log 14). That the arbitration-drop
and missed-beat counts saturate at 65,535 is the model's choice (log 33). -/
def Obligations.FrameLeavesTheLine : Prop :=
  ∀ (s : State) (f : InFlight), s.inReset = false → s.line.inFlight = some f →
    let l := { s.line with inFlight := none }
    let becomes := fun (c : Instr) (l' : Line) => exec c s = .next { s with line := l' }
    let missed := min 65535 (s.line.missedBeats + 1)
    let drops := min 65535 (s.line.arbitrationDrops + 1)
    (f.orphaned = true → becomes .arbitrationLoss l) ∧
    (match f.item with
    | .beat seq =>
      becomes .frameComplete l ∧
      (f.orphaned = false → 15 ≤ f.losses →
        becomes .arbitrationLoss { l with arbitrationDrops := drops, missedBeats := missed }) ∧
      (f.orphaned = false → f.losses < 15 → s.line.beat = none →
        becomes .arbitrationLoss { l with beat := some { seq, losses := f.losses + 1 } }) ∧
      (f.orphaned = false → f.losses < 15 → s.line.beat ≠ none →
        becomes .arbitrationLoss { l with missedBeats := missed })
    | .steer st =>
      becomes .frameComplete { l with steerCredit := s.line.steerCredit - 1 } ∧
      (f.orphaned = false → 15 ≤ f.losses →
        becomes .arbitrationLoss { l with arbitrationDrops := drops }) ∧
      (f.orphaned = false → f.losses < 15 → (∀ w ∈ s.line.steers, w.steer.junction ≠ st.junction) →
        becomes .arbitrationLoss
          { l with steers := { steer := st, losses := f.losses + 1 } :: s.line.steers }) ∧
      (f.orphaned = false → f.losses < 15 → (∃ w ∈ s.line.steers, w.steer.junction = st.junction) →
        becomes .arbitrationLoss l)
    | .queued item =>
      becomes .frameComplete { l with replyCredit := s.line.replyCredit - 1 } ∧
      (f.orphaned = false → 15 ≤ f.losses →
        becomes .arbitrationLoss { l with arbitrationDrops := drops }) ∧
      (f.orphaned = false → f.losses < 15 →
        becomes .arbitrationLoss
          { l with replies := { item, losses := f.losses + 1 } :: s.line.replies }))

/-- Reception (R152, R153, R162, R110). A frame with a right check word is placed in the receive
queue of 4 places, or counted as an overrun when it is full; on the line only one whose destination
is the unit's address and that the unit itself is not sending is taken, and any other changes
nothing; on the centre link every destination is taken, and a frame placed sets the silence timer to
0. A wrong check word counts as a check fault. Every frame being assembled is discarded at a fault
that it shows, cut short, with a length character above 24, with a wrong check word, or with no
place left, and raises the one counter of that fault, up to 65,535; on the line only a frame that
the unit takes, but for a framing fault in the first character; anything else changes nothing. That
the unit knows its own frame by the characters of the frame in flight is the model's reading (log
18). -/
def Obligations.FramesReceivedOrDiscarded : Prop :=
  (∀ (s : State) (f : Frame) (lo hi : Byte), s.inReset = false → f.payload.length ≤ 24 →
      let bad := f.body ++ [lo, hi]
      let wrong := [lo, hi] ≠ char2 (checkWord f.body)
      let line := s.line
      let centre := s.centre
      (¬ Takes s f.chars → exec (.lineFrameReceived f.chars) s = .next s) ∧
      (¬ Takes s bad → wrong → exec (.lineFrameReceived bad) s = .next s) ∧
      (Takes s f.chars → line.rx.length < 4 → exec (.lineFrameReceived f.chars) s = .next { s with
        line := { line with rx := line.rx ++ [f] } }) ∧
      (Takes s f.chars → 4 ≤ line.rx.length → exec (.lineFrameReceived f.chars) s = .next { s with
        line := { line with errors := counted line.errors .overrun } }) ∧
      (Takes s bad → wrong → exec (.lineFrameReceived bad) s = .next { s with
        line := { line with errors := counted line.errors .check } }) ∧
      (centre.rx.length < 4 → exec (.centreFrameReceived f.chars) s = .next { s with
        centre := { centre with rx := centre.rx ++ [f] }
        selector := { s.selector with silence := 0 } }) ∧
      (4 ≤ centre.rx.length → exec (.centreFrameReceived f.chars) s = .next { s with
        centre := { centre with errors := counted centre.errors .overrun } }) ∧
      (wrong → exec (.centreFrameReceived bad) s = .next { s with
        centre := { centre with errors := counted centre.errors .check } })) ∧
  (∀ (s : State) (fault : RxFault) (chars : List Byte), s.inReset = false →
      let shown := FaultShown chars s.line.rx.length fault
      (shown → Takes s chars ∨ chars = [] →
        exec (.lineFrameDiscarded fault chars) s = .next { s with
          line := { s.line with errors := counted s.line.errors fault } }) ∧
      (¬ shown ∨ (chars ≠ [] ∧ ¬ Takes s chars) →
        exec (.lineFrameDiscarded fault chars) s = .next s) ∧
      (FaultShown chars s.centre.rx.length fault →
        exec (.centreFrameDiscarded fault chars) s = .next { s with
          centre := { s.centre with errors := counted s.centre.errors fault } }) ∧
      (¬ FaultShown chars s.centre.rx.length fault →
        exec (.centreFrameDiscarded fault chars) s = .next s))

/-- The centre transmitter (R163, R172): when a frame has completed the oldest reply is started, else the
oldest notice. With a RESET_UNIT waiting, a reply or a notice in flight is likewise followed by the oldest
reply that waits, and after the reply of the RESET_UNIT, the last reply, nothing more is started. And a
frame is started at once whenever the transmitter is idle: every command keeps it so that it stands idle
only while no reply and no notice waits, that what it sends is the frame of its reply or notice, and that
while a RESET_UNIT waits for its reply a reply waits or is sent, so that no notice is started then. -/
def Obligations.CentreTransmitterGoesOn : Prop :=
  (∀ (s : State) (sent : CentreSending), s.inReset = false → s.centre.sending = some sent →
    (s.handler.reset = none →
      (∀ r rest, s.centre.replies = r :: rest →
        exec .centreFrameComplete s = .next { s with centre := { s.centre with
          replies := rest, sending := some (.reply r (replyFrame s r).chars) } }) ∧
      (∀ n rest, s.centre.replies = [] → s.centre.notices = n :: rest →
        exec .centreFrameComplete s = .next { s with centre := { s.centre with
          notices := rest, sending := some (.notice n (noticeFrame s n).chars) } }) ∧
      (s.centre.replies = [] → s.centre.notices = [] →
        exec .centreFrameComplete s = .next { s with centre := { s.centre with
          sending := none } })) ∧
    (∀ x r rest, s.handler.reset = some x → x.replyDone = false → s.centre.replies = r :: rest →
      exec .centreFrameComplete s = .next { s with centre := { s.centre with
        replies := rest, sending := some (.reply r (replyFrame s r).chars) } }) ∧
    (∀ x r chars, s.handler.reset = some x → sent = .reply r chars → s.centre.replies = [] →
      exec .centreFrameComplete s = .next { s with
        centre := { s.centre with sending := none }
        handler := { s.handler with reset := some { x with replyDone := true } } })) ∧
  (∀ (c : Instr) (s u : State), exec c s = .next u → CentreGoes s → CentreGoes u)

/-- The bounds of both ports as an invariant that every command keeps (R149, R152 to R155, R157, R162, R163):
receive queues of 4, reply queues of 8 and 4 with the frame in flight, 16 notices, one waiting steer for
a junction, credits up to 3 and 1, loss counts below 16, counters up to 65,535, notice sequence below
256. -/
def Obligations.PortsBoundedKept : Prop :=
  ∀ (c : Instr) (s u : State), exec c s = .next u → PortsBounded s → PortsBounded u

/-! ### Resets (chapter 11) -/

/-- RESET_N low (R170): the frames in flight are abandoned, a write in progress is torn, an accepted
RESET_UNIT is replaced, and while it stays low every command but the hardware reset that ends it
changes nothing. The hardware reset (R169 to R171, R24): the straps are latched, and give the line
address 16 + 4 x hi + lo and the bit rate of each level (R160); the working copy is loaded from
retained memory, every volatile item takes its reset value, and waiting commands stay. The corridor
is then in HOLD, unless the start strap is AUTO, the geometry VALID and its start plan READY: then
it is ENTERING that plan at its nominal bias, with a MODE_CHANGED notice of sequence 1 and a
computation started. That a hardware reset alone tears a write, and that commands in reset change
nothing, is the model's reading (log 17). -/
def Obligations.HardwareResetRestarts : Prop :=
  ((∀ s : State, exec .resetNAssert s = .next { s with
      inReset := true, retained := tearWrite s.retained s.retention, retention := none
      handler := { s.handler with reset := none }, line := { s.line with inFlight := none }
      centre := { s.centre with sending := none } }) ∧
    (∀ (s u : State) (c : Instr), s.inReset = true → exec c s = .next u → c ≠ .resetNAssert →
      (∀ pins, c ≠ .hardwareReset pins) → u = s)) ∧
  (∀ (s : State) (pins : Straps),
      let retained := tearWrite s.retained s.retention
      let held : State := { State.reset with
        straps := pins, store := loadStore retained, retained
        roster := .initial (loadStore retained).geometry.head.n, pending := s.pending }
      let starts := fun p : Fin 24 => pins.start = .auto ∧
        held.store.geometry.head.startPlan = p.val + 1 ∧ PlanReady held p
      let level := fun l : StrapLevel => match l with
        | .gnd => 0 | .pulledDown => 1 | .pulledUp => 2 | .vdd => 3
      (unitAddress held = 16 + 4 * level pins.addrHi + level pins.addrLo ∧
        lineRate held = match level pins.rate with
          | 0 => 9600 | 1 => 19200 | 2 => 38400 | _ => 57600) ∧
      ((∀ p, ¬ starts p) → exec (.hardwareReset pins) s = .next held) ∧
      (∀ p, starts p → ∃ u, exec (.hardwareReset pins) s = .next u ∧
        u = { held with
          timebase := { held.timebase with mode := .entering, entry := p.val + 1 }
          selector := { held.selector with liveBias := held.store.plans[p].head.biasNominal }
          engine := { held.engine with computing := some (takeSnapshot u (p.val + 1) .entry) }
          centre := u.centre } ∧
        u.centre.rx = [] ∧ centreReplies u.centre = [] ∧ u.centre.errors = .zero ∧
        u.centre.noticeSeq = 1 ∧
        centreNotices u.centre = [{ seq := 1, body := .modeChanged .hold .entering (p.val + 1) }]))

/-- RESET_UNIT (R172): accepted with reply OK in every mode and retention state, after which the
handler takes no frame from either queue; it takes effect once its reply has completed, as a
hardware reset with the straps sensed then for option 1 and with the straps latched before for
option 0, and not before. What stands for the end of the reply is the model's reading (log 16). -/
def Obligations.UnitResetWaitsForItsReply : Prop :=
  (∀ (s : State) (t : Taken) (relatch : Bool), AtRest s → Admits s t (.resetUnit relatch) →
    ∃ u, exec .resetUnit s = .next u ∧ Replied s u t .ok [] ∧ LineQuiet s u ∧ CentreQuiet s u ∧
      u = { s with line := u.line, centre := u.centre
                   handler := { served := t.port, reset := some { relatch, replyDone := false } } } ∧
      nextFrame u = none ∧ ∀ k, exec (commandOf k) u = .next u) ∧
  (∀ (s : State) (x : PendingReset) (pins : Straps), s.inReset = false →
    s.handler.reset = some x →
    (x.replyDone = true → ∃ u, exec (.resetUnitTakesEffect pins) s = .next u ∧
      exec (.hardwareReset (if x.relatch then pins else s.straps)) s = .next u) ∧
    (x.replyDone = false → s.centre.replies ≠ [] ∨ s.centre.sending = none →
      exec (.resetUnitTakesEffect pins) s = .next s))

/-- RESET_ENGINE (R173, R57, R46, R91, R111, R112, R136, R138, R161): accepted in every mode.
Timebase, local cycles, priority list, both target sets, demand, spill states, roster and report
clock, both pins, timer and candidate return to their values, a computation in flight is marked,
waiting beats and steers are removed without a missed count, a steer in flight is marked so that it
does not return when it loses, and outside HOLD one beat and, behind the drops, a MODE_CHANGED notice
follow. Both copies of the store, the generation, the priority
clock, the live bias, the credits and every counter stay. That the reply stands before the frames of
its effect is the model's reading (log 8). That MODE_CHANGED stands behind the drops' notices (log 9), and
that a period end or a beat already due is cancelled (log 35), is its choice. -/
def Obligations.EngineResets : Prop :=
  ∀ (s : State) (t : Taken), AtRest s → Admits s t .resetEngine →
    let seq := (s.timebase.beatSeq + 1) % 256
    ∃ u, exec .resetEngine s = .next u ∧
      u = { s with
        timebase := { mode := .hold, cc := 0, c := 0, active := 0, pendingPlan := 0, entry := 0,
                      divider := none
                      beatSeq := if s.timebase.mode = .hold then s.timebase.beatSeq else seq }
        cycles := Vector.replicate 12 .held
        due := Due.nothing
        priority := { s.priority with list := [] }
        engine := { s.engine with
          void := s.engine.void || s.engine.computing.isSome, again := false
          active := none, pendingSet := none }
        selector := { s.selector with
          planPin := none, biasPin := none, evalTimer := none, candidate := none, count := 0 }
        demand := { junctions := Vector.replicate 12
                      { sIn := 0, sOut := 0, inVolume := 0, outVolume := 0 }
                    levelIn := Vector.replicate 11 0, levelOut := Vector.replicate 11 0 }
        gate := { inbound := Vector.replicate 11 { isSet := false, run := 0 }
                  outbound := Vector.replicate 11 { isSet := false, run := 0 } }
        roster := { junctions := u.roster.junctions, clock := 0 }
        line := u.line, centre := u.centre, handler := u.handler } ∧
      (∀ j : Junction, u.roster.junctions[j] =
        { state := if j.val < junctionCount s then .silent else .absent
          misses := 0, reports := 0, following := false }) ∧
      RepliedThen s u t
        (outcomesPlaced (.dropped .engineReset) s.priority.list (queuedWithReply s t)) ∧
      u.handler.reset = s.handler.reset ∧ LineKept s u ∧ FlightMarked s u ∧
      u.line.missedBeats = s.line.missedBeats ∧ lineSteers u.line = flightSteers s.line ∧
      lineBeats u.line = flightBeats s.line ++ (if s.timebase.mode = .hold then [] else [seq]) ∧
      CentreNoticed s u
        (outcomeNotices (.dropped .engineReset) s.priority.list (queuedWithReply s t) ++
          (if s.timebase.mode = .hold then [] else [.modeChanged s.timebase.mode .hold 0]))

/-- The state after the reset of a unit that has never been written (R3, R9, R18, R24, R25, R51,
R61, R91, R100, R112, R123, R138, R149, R164) is a safe state: bounded ports on which nothing waits
that could have started, a bounded priority list, a coherent timebase over fields in range, and two
copies that agree. That the straps stand at their lowest levels and retained memory is unwritten is
the model's choice (log 1). -/
def Obligations.ResetIsSafe : Prop := Safe State.reset

/-! ### What the frames and the read results carry (section 9.6) -/

/-- The fields of every frame that the unit sends and of every read result, in their order, as R159 codes
them: one, two or four characters, low byte first, and a named value by its position in its list. A beat
carries the Timebase and the live bias, and a steer the LC, of the frame's start (R71, R73). A reply
carries its code and its result, an OUTCOME the entry's key, direction and outcome, a notice its kind and
the fields of the rule that queues it. That a list of yes and no, of set and clear, or of open and closed
is coded in that order (log 12), the layouts that R159 does not table (log 13), and what the timers and
the next period end read in seconds, minutes and ds (logs 10, 11) are the model's reading; the values
that Config leaves free are arbitrary (logs 3, 4, 5). -/
def Obligations.FieldsCarriedInOrder : Prop :=
  let bit := fun b : Bool => if b = true then 1 else 0
  let first := fun b : Bool => if b = true then char1 0 else char1 1
  let second := fun b : Bool => if b = true then char1 1 else char1 0
  let action := fun a : PriorityAction =>
    char1 ([PriorityAction.none, .early, .extend, .cut].idxOf a)
  let direction := fun d : Direction => char1 ([Direction.inbound, .outbound].idxOf d)
  let mode := fun m : Mode => char1 ([Mode.hold, .entering, .run].idxOf m)
  let seek := fun k : SeekState => [SeekState.inStep, .lengthen, .shorten].idxOf k
  let roster := fun r : RosterState =>
    char1 ([RosterState.absent, .silent, .linked, .degraded, .lost].idxOf r)
  let lineState := fun l : LineState => char1 ([LineState.free, .busy, .fault].idxOf l)
  let reason := fun r : DropReason =>
    char1 ([DropReason.plan, .lost, .notFollowing, .hold, .engineReset].idxOf r)
  let outcome := fun o : CallOutcome => match o with
    | .granted a amount => [char1 0, action a, char1 amount]
    | .expired => [char1 1, char1 0, char1 0]
    | .cancelled => [char1 2, char1 0, char1 0]
    | .dropped _ => [char1 3, char1 0, char1 0]
  let source := fun x : Source => match x with
    | .centre => char1 0
    | .station a => char1 a
  let errors := fun e : RxCounters =>
    char2 e.framing ++ char2 e.brokenFrame ++ char2 e.length ++ char2 e.check ++ char2 e.overrun
  let head := fun h : PlanHead =>
    char2 h.c ++ char2 h.p ++ [char1 h.anchor, char1 h.vIn, char1 h.vOut, char1 h.biasNominal, char1 h.biasMin,
      char1 h.biasMax] ++
    char2 h.gMin ++ char2 h.sMin ++
    [char1 h.dwellPct, char1 h.shortPct, char1 h.eMax, char1 h.xMax, char1 h.lockout, char1 h.gatePct]
  let planEntry := fun e : PlanEntry =>
    char2 e.share ++ charSigned e.trim ++ [char1 (bit e.follow + 2 * bit e.priIn + 4 * bit e.priOut)]
  let record := fun w : Option RetentionRecord => match w with
    | none => [char1 0, char1 0, char1 0, char1 0]
    | some .geometryHead => [char1 1, char1 1, char1 0, char1 0]
    | some (.geometryGroup g) => [char1 1, char1 2, char1 g.val, char1 0]
    | some (.planHead p) => [char1 1, char1 3, char1 (p.val + 1), char1 0]
    | some (.planGroup p g) => [char1 1, char1 4, char1 (p.val + 1), char1 g.val]
    | some (.planState p _) => [char1 1, char1 5, char1 (p.val + 1), char1 0]
    | some (.selectionEntry i) => [char1 1, char1 6, char1 i.val, char1 0]
  let setGeneration := fun x : Option TargetSet => match x with
    | some set => set.generation
    | none => 0
  let secondsLeft := fun timer : Option Nat => match timer with
    | some t => (t + 5) / 10
    | none => Config.evaluationSecondsWhenStopped
  let extension := fun x : Option Extension => match x with
    | none =>
      [char1 0] ++ char2 Config.tagOfAbsentExtension ++ [char1 Config.amountOfAbsentExtension]
    | some x => [char1 1] ++ char2 x.tag ++ [char1 x.amount]
  let targetAt := fun (x : Option TargetSet) (j : Junction) => match x with
    | none => 0
    | some set => match set.entries[j.val]? with
      | some e => e.target
      | none => Config.targetWithoutEntry j.val
  (∀ (v : Nat) (d : Int),
    char1 v = BitVec.ofNat 8 v ∧ char2 v = [BitVec.ofNat 8 v, BitVec.ofNat 8 (v / 256)] ∧
    char4 v = [BitVec.ofNat 8 v, BitVec.ofNat 8 (v / 256), BitVec.ofNat 8 (v / 65536),
      BitVec.ofNat 8 (v / 16777216)] ∧
    charSigned d = char2 (d % 65536).toNat) ∧
  ∀ s : State,
    let sent := fun (dest kind seq : Byte) (payload : List Byte) =>
      ({ dest, src := addressChar (unitAddress s), kind, seq, payload } : Frame)
    -- the frames of the line
    (∀ seq, lineFrame s (.beat seq) = sent 0#8 0x80#8 (char1 seq)
      (char2 s.timebase.cc ++ char2 s.timebase.c ++
        [char1 s.timebase.active, char1 s.timebase.pendingPlan, mode s.timebase.mode,
          char1 s.selector.liveBias])) ∧
    (∀ st : Steer, lineFrame s (.steer st) =
      sent (addressChar s.store.geometry.entries[st.junction].address) 0x81#8 0#8
        ([char1 st.junction.val, char1 st.plan] ++ char2 st.lcur ++ char2 st.windowEnd ++
          [char1 (bit st.full + 2 * bit st.gate + 4 * seek st.seek)] ++ char2 s.cycles[st.junction].lc ++
          char2 st.offsetNow ++ char2 st.target ++ charSigned st.delta ++
          [action st.action, char1 st.amount])) ∧
    (∀ r : Reply, lineFrame s (.queued (.reply r)) = replyFrame s r ∧
      replyFrame s r = sent (addressChar r.dest) 0x82#8 r.seq
        (char1 ([ReplyCode.ok, .busy, .inUse, .notReady, .wrongMode, .refusedRights, .badArgument,
          .listFull, .notFound, .throttled, .unknownKind].idxOf r.code) :: r.result)) ∧
    (∀ o : OutcomeFrame, lineFrame s (.queued (.outcome o)) =
      sent (addressChar o.dest) 0x83#8 0#8
        ([char1 o.junction.val, direction o.direction] ++ char2 o.tag ++ outcome o.outcome)) ∧
    -- the notices
    (∀ n : Notice, noticeFrame s n = sent 0#8 0x84#8 (char1 n.seq) (match n.body with
      | .planChanged old new generation => [char1 0, char1 old, char1 new] ++ char2 generation
      | .modeChanged old new plan => [char1 1, mode old, mode new, char1 plan]
      | .junctionState j address before after misses =>
        [char1 2, char1 j.val, char1 address, roster before, roster after, char1 misses]
      | .spillback d k isSet j why =>
        [char1 3, direction d, char1 k.val, second isSet, char1 j,
          char1 ([SpillReason.flag, .clearRun, .lost, .geometry].idxOf why)]
      | .priorityOutcome j d tag o src placed =>
        [char1 4, char1 j.val, direction d] ++ char2 tag ++ outcome o ++ [source src] ++
          (match o with
            | .dropped why => [reason why]
            | _ => []) ++ [first placed]
      | .priorityCut tag amount => [char1 4, char1 4] ++ char2 tag ++ [char1 amount]
      | .lineState l => [char1 5, lineState l]
      | .pinLapsed plan bias => [char1 6, char1 (plan.getD 0), char1 (bias.getD 255)])) ∧
    -- the reads of the Plan Store
    (∀ p : Fin 24,
      let r := s.store.plans[p]
      planHeadResult s (p.val + 1) =
        [char1 ([PlanState.empty, .unchecked, .checked].idxOf r.state)] ++ char2 r.stamp ++
        (match r.fault with
          | .sideTime j => [char1 6, char1 j]
          | f => [char1 ([PlanFault.none, .noGeometry, .offsetRange, .anchorRange, .biasOrder,
              .greenSide, .sideTime 0, .noBand, .torn].idxOf f), char1 0]) ++
        [first (ready s (p.val + 1)), first (inUse s (p.val + 1))] ++ head r.head ∧
      ∀ g : Fin 3, planGroupResult s (p.val + 1) g.val =
        (List.finRange 4).flatMap fun k =>
          planEntry (s.store.plans[p].entries[Fin.ofNat 12 (4 * g.val + k.val)])) ∧
    (let g := s.store.geometry;
      geometryHeadResult s =
        [char1 ([GeometryState.unchecked, .valid].idxOf g.state),
          char1 ([GeometryFault.none, .addressClash, .positionOrder, .linkShort, .thresholdOrder,
            .torn].idxOf g.fault)] ++ char2 g.stamp ++
        [char1 g.head.n, char1 g.head.reportPeriod, char1 g.head.downgradeLimit] ++ char2 g.head.u1 ++
        char2 g.head.u2 ++ char2 g.head.u3 ++ char2 g.head.d1 ++ char2 g.head.d2 ++ char2 g.head.d3 ++
        [char1 g.head.startPlan] ++ char2 g.head.selectionInterval ++
        [char1 g.head.pinLapse, char1 g.head.priorityExpiry, char1 g.head.holdOff] ∧
      ∀ k : Fin 3, geometryGroupResult s k.val =
        (List.finRange 4).flatMap fun i =>
          char1 g.entries[Fin.ofNat 12 (4 * k.val + i.val)].address ::
            char2 g.entries[Fin.ofNat 12 (4 * k.val + i.val)].position) ∧
    (∀ i : Fin 16,
      let e := s.store.selection[i]
      selectionResult s i.val = [first e.valid, char1 e.plan] ++ char2 e.low ++ char2 e.high ++
        [char1 ([Dominance.inbound, .outbound, .balanced, .any].idxOf e.dominance),
          char1 e.persistence]) ∧
    -- READ_STATUS
    (statusResult s =
      [mode s.timebase.mode] ++ char2 s.timebase.cc ++ char2 s.timebase.c ++
      [char1 s.timebase.active, char1 s.timebase.pendingPlan, char1 s.timebase.entry,
        char1 s.timebase.beatSeq] ++
      [second s.engine.computing.isSome, first s.engine.pendingSet.isSome] ++
      char2 (setGeneration s.engine.pendingSet) ++ char2 s.engine.generation ++
      record s.retention ++
      [char1 s.selector.liveBias, char1 (s.selector.planPin.getD 0), char1 (s.selector.biasPin.getD 255),
        char1 (s.selector.candidate.getD 0), char1 s.selector.count] ++
      char2 (secondsLeft s.selector.evalTimer) ++
      [char1 ((s.selector.silence + 300) / 600)] ++
      char2 (demandIn s) ++ char2 (demandOut s) ++ char2 (totalDemand s) ++
      [char1 ([Dominance.inbound, .outbound, .balanced, .any].idxOf (dominanceNow s)),
        char1 (if s.timebase.mode = .run then biasTarget s else 0)] ++
      (List.finRange 12).map (fun j => roster s.roster.junctions[j].state) ++
      char2 (max 1 (10 * s.store.geometry.head.reportPeriod - s.roster.clock)) ++
      char4 s.priority.clock ++ [char1 s.priority.list.length] ++
      s.priority.list.flatMap (fun e =>
        [char1 e.junction.val, direction e.direction] ++ char2 e.tag ++ [source e.source] ++ char4 e.due ++
          char4 e.expiry) ++
      [lineState s.line.state, second s.line.beat.isSome, char1 s.line.steers.length,
        char1 (lineReplies s.line).length, char1 s.line.rx.length, char1 s.line.steerCredit,
        char1 s.line.replyCredit] ++
      errors s.line.errors ++ char2 s.line.arbitrationDrops ++ char2 s.line.missedBeats ++
      [char1 s.centre.rx.length, char1 (centreReplies s.centre).length, char1 s.centre.notices.length,
        char1 s.centre.noticeSeq] ++
      errors s.centre.errors) ∧
    -- READ_JUNCTION
    (∀ j : Junction,
      let n := junctionCount s
      let r := s.cycles[j]
      let level := fun (there : Prop) [Decidable there] (v : Nat) => if there then char1 v else char1 0
      let spill := fun (there : Prop) [Decidable there] (x : Spill) =>
        if there then [second x.isSet, char1 x.run] else [char1 0, char1 0]
      let before := Fin.ofNat 11 (j.val - 1)
      let after := Fin.ofNat 11 j.val
      let fromBefore := 1 ≤ j.val ∧ j.val < n
      let toAfter := j.val + 1 < n ∧ j.val < 11
      junctionResult s j =
        [char1 r.plan] ++ char2 r.lc ++ char2 r.lcur ++ char2 r.windowEnd ++ [first r.windowOpen] ++
        char2 r.gEff ++
        [first r.full, first r.gate] ++ char2 r.offsetNow ++ char2 r.targetUsed ++
        [char1 (seek r.seek)] ++
        charSigned r.delta ++ [char1 r.lockout, first r.actionTaken] ++
        extension r.extension ++
        [first (gatedNow s j)] ++
        char2 (targetAt s.engine.active j) ++
        [roster s.roster.junctions[j].state, char1 s.roster.junctions[j].misses,
          char1 s.roster.junctions[j].reports, first s.roster.junctions[j].following] ++
        char2 s.demand.junctions[j].sIn ++ char2 s.demand.junctions[j].sOut ++
        [char1 s.demand.junctions[j].inVolume, char1 s.demand.junctions[j].outVolume,
          level fromBefore s.demand.levelIn[before], level toAfter s.demand.levelOut[after]] ++
        spill toAfter s.gate.inbound[after] ++ spill fromBefore s.gate.outbound[before]) ∧
    -- READ_BAND
    (∀ t : TargetSet, t.chars =
      [char1 t.plan] ++ char2 t.generation ++ char2 t.c ++ [char1 t.n, char1 t.bias] ++
      char2 t.bandIn ++ char2 t.bandOut ++
      t.entries.flatMap fun e =>
        char2 e.target ++ [char1 ([WindowClass.uncoordinated, .windowed, .full].idxOf e.cls)] ++
          char2 e.g ++ char2 e.gEff ++ [first e.constraining])
end

