-- ==== Sys2Proof/Laws/State.lean ====
section
/-! SUPPORT. One lemma per field per block update: the update writes its field and no other. -/

namespace Sys2Proof.Machine

open Sys2Proof

@[simp] theorem setInReset_inReset (s : State) (v : Bool) : (s.setInReset v).inReset = v := rfl
@[simp] theorem setInReset_straps (s : State) (v : Bool) : (s.setInReset v).straps = s.straps := rfl
@[simp] theorem setInReset_store (s : State) (v : Bool) : (s.setInReset v).store = s.store := rfl
@[simp] theorem setInReset_retention (s : State) (v : Bool) : (s.setInReset v).retention = s.retention := rfl
@[simp] theorem setInReset_retained (s : State) (v : Bool) : (s.setInReset v).retained = s.retained := rfl
@[simp] theorem setInReset_engine (s : State) (v : Bool) : (s.setInReset v).engine = s.engine := rfl
@[simp] theorem setInReset_timebase (s : State) (v : Bool) : (s.setInReset v).timebase = s.timebase := rfl
@[simp] theorem setInReset_cycles (s : State) (v : Bool) : (s.setInReset v).cycles = s.cycles := rfl
@[simp] theorem setInReset_due (s : State) (v : Bool) : (s.setInReset v).due = s.due := rfl
@[simp] theorem setInReset_demand (s : State) (v : Bool) : (s.setInReset v).demand = s.demand := rfl
@[simp] theorem setInReset_selector (s : State) (v : Bool) : (s.setInReset v).selector = s.selector := rfl
@[simp] theorem setInReset_gate (s : State) (v : Bool) : (s.setInReset v).gate = s.gate := rfl
@[simp] theorem setInReset_priority (s : State) (v : Bool) : (s.setInReset v).priority = s.priority := rfl
@[simp] theorem setInReset_roster (s : State) (v : Bool) : (s.setInReset v).roster = s.roster := rfl
@[simp] theorem setInReset_line (s : State) (v : Bool) : (s.setInReset v).line = s.line := rfl
@[simp] theorem setInReset_centre (s : State) (v : Bool) : (s.setInReset v).centre = s.centre := rfl
@[simp] theorem setInReset_handler (s : State) (v : Bool) : (s.setInReset v).handler = s.handler := rfl
@[simp] theorem setInReset_causeRaised (s : State) (v : Bool) : (s.setInReset v).causeRaised = s.causeRaised := rfl
@[simp] theorem setInReset_pending (s : State) (v : Bool) : (s.setInReset v).pending = s.pending := rfl

@[simp] theorem setStraps_inReset (s : State) (v : Straps) : (s.setStraps v).inReset = s.inReset := rfl
@[simp] theorem setStraps_straps (s : State) (v : Straps) : (s.setStraps v).straps = v := rfl
@[simp] theorem setStraps_store (s : State) (v : Straps) : (s.setStraps v).store = s.store := rfl
@[simp] theorem setStraps_retention (s : State) (v : Straps) : (s.setStraps v).retention = s.retention := rfl
@[simp] theorem setStraps_retained (s : State) (v : Straps) : (s.setStraps v).retained = s.retained := rfl
@[simp] theorem setStraps_engine (s : State) (v : Straps) : (s.setStraps v).engine = s.engine := rfl
@[simp] theorem setStraps_timebase (s : State) (v : Straps) : (s.setStraps v).timebase = s.timebase := rfl
@[simp] theorem setStraps_cycles (s : State) (v : Straps) : (s.setStraps v).cycles = s.cycles := rfl
@[simp] theorem setStraps_due (s : State) (v : Straps) : (s.setStraps v).due = s.due := rfl
@[simp] theorem setStraps_demand (s : State) (v : Straps) : (s.setStraps v).demand = s.demand := rfl
@[simp] theorem setStraps_selector (s : State) (v : Straps) : (s.setStraps v).selector = s.selector := rfl
@[simp] theorem setStraps_gate (s : State) (v : Straps) : (s.setStraps v).gate = s.gate := rfl
@[simp] theorem setStraps_priority (s : State) (v : Straps) : (s.setStraps v).priority = s.priority := rfl
@[simp] theorem setStraps_roster (s : State) (v : Straps) : (s.setStraps v).roster = s.roster := rfl
@[simp] theorem setStraps_line (s : State) (v : Straps) : (s.setStraps v).line = s.line := rfl
@[simp] theorem setStraps_centre (s : State) (v : Straps) : (s.setStraps v).centre = s.centre := rfl
@[simp] theorem setStraps_handler (s : State) (v : Straps) : (s.setStraps v).handler = s.handler := rfl
@[simp] theorem setStraps_causeRaised (s : State) (v : Straps) : (s.setStraps v).causeRaised = s.causeRaised := rfl
@[simp] theorem setStraps_pending (s : State) (v : Straps) : (s.setStraps v).pending = s.pending := rfl

@[simp] theorem setStore_inReset (s : State) (v : Store) : (s.setStore v).inReset = s.inReset := rfl
@[simp] theorem setStore_straps (s : State) (v : Store) : (s.setStore v).straps = s.straps := rfl
@[simp] theorem setStore_store (s : State) (v : Store) : (s.setStore v).store = v := rfl
@[simp] theorem setStore_retention (s : State) (v : Store) : (s.setStore v).retention = s.retention := rfl
@[simp] theorem setStore_retained (s : State) (v : Store) : (s.setStore v).retained = s.retained := rfl
@[simp] theorem setStore_engine (s : State) (v : Store) : (s.setStore v).engine = s.engine := rfl
@[simp] theorem setStore_timebase (s : State) (v : Store) : (s.setStore v).timebase = s.timebase := rfl
@[simp] theorem setStore_cycles (s : State) (v : Store) : (s.setStore v).cycles = s.cycles := rfl
@[simp] theorem setStore_due (s : State) (v : Store) : (s.setStore v).due = s.due := rfl
@[simp] theorem setStore_demand (s : State) (v : Store) : (s.setStore v).demand = s.demand := rfl
@[simp] theorem setStore_selector (s : State) (v : Store) : (s.setStore v).selector = s.selector := rfl
@[simp] theorem setStore_gate (s : State) (v : Store) : (s.setStore v).gate = s.gate := rfl
@[simp] theorem setStore_priority (s : State) (v : Store) : (s.setStore v).priority = s.priority := rfl
@[simp] theorem setStore_roster (s : State) (v : Store) : (s.setStore v).roster = s.roster := rfl
@[simp] theorem setStore_line (s : State) (v : Store) : (s.setStore v).line = s.line := rfl
@[simp] theorem setStore_centre (s : State) (v : Store) : (s.setStore v).centre = s.centre := rfl
@[simp] theorem setStore_handler (s : State) (v : Store) : (s.setStore v).handler = s.handler := rfl
@[simp] theorem setStore_causeRaised (s : State) (v : Store) : (s.setStore v).causeRaised = s.causeRaised := rfl
@[simp] theorem setStore_pending (s : State) (v : Store) : (s.setStore v).pending = s.pending := rfl

@[simp] theorem setRetention_inReset (s : State) (v : Option RetentionRecord) : (s.setRetention v).inReset = s.inReset := rfl
@[simp] theorem setRetention_straps (s : State) (v : Option RetentionRecord) : (s.setRetention v).straps = s.straps := rfl
@[simp] theorem setRetention_store (s : State) (v : Option RetentionRecord) : (s.setRetention v).store = s.store := rfl
@[simp] theorem setRetention_retention (s : State) (v : Option RetentionRecord) : (s.setRetention v).retention = v := rfl
@[simp] theorem setRetention_retained (s : State) (v : Option RetentionRecord) : (s.setRetention v).retained = s.retained := rfl
@[simp] theorem setRetention_engine (s : State) (v : Option RetentionRecord) : (s.setRetention v).engine = s.engine := rfl
@[simp] theorem setRetention_timebase (s : State) (v : Option RetentionRecord) : (s.setRetention v).timebase = s.timebase := rfl
@[simp] theorem setRetention_cycles (s : State) (v : Option RetentionRecord) : (s.setRetention v).cycles = s.cycles := rfl
@[simp] theorem setRetention_due (s : State) (v : Option RetentionRecord) : (s.setRetention v).due = s.due := rfl
@[simp] theorem setRetention_demand (s : State) (v : Option RetentionRecord) : (s.setRetention v).demand = s.demand := rfl
@[simp] theorem setRetention_selector (s : State) (v : Option RetentionRecord) : (s.setRetention v).selector = s.selector := rfl
@[simp] theorem setRetention_gate (s : State) (v : Option RetentionRecord) : (s.setRetention v).gate = s.gate := rfl
@[simp] theorem setRetention_priority (s : State) (v : Option RetentionRecord) : (s.setRetention v).priority = s.priority := rfl
@[simp] theorem setRetention_roster (s : State) (v : Option RetentionRecord) : (s.setRetention v).roster = s.roster := rfl
@[simp] theorem setRetention_line (s : State) (v : Option RetentionRecord) : (s.setRetention v).line = s.line := rfl
@[simp] theorem setRetention_centre (s : State) (v : Option RetentionRecord) : (s.setRetention v).centre = s.centre := rfl
@[simp] theorem setRetention_handler (s : State) (v : Option RetentionRecord) : (s.setRetention v).handler = s.handler := rfl
@[simp] theorem setRetention_causeRaised (s : State) (v : Option RetentionRecord) : (s.setRetention v).causeRaised = s.causeRaised := rfl
@[simp] theorem setRetention_pending (s : State) (v : Option RetentionRecord) : (s.setRetention v).pending = s.pending := rfl

@[simp] theorem setRetained_inReset (s : State) (v : Retained) : (s.setRetained v).inReset = s.inReset := rfl
@[simp] theorem setRetained_straps (s : State) (v : Retained) : (s.setRetained v).straps = s.straps := rfl
@[simp] theorem setRetained_store (s : State) (v : Retained) : (s.setRetained v).store = s.store := rfl
@[simp] theorem setRetained_retention (s : State) (v : Retained) : (s.setRetained v).retention = s.retention := rfl
@[simp] theorem setRetained_retained (s : State) (v : Retained) : (s.setRetained v).retained = v := rfl
@[simp] theorem setRetained_engine (s : State) (v : Retained) : (s.setRetained v).engine = s.engine := rfl
@[simp] theorem setRetained_timebase (s : State) (v : Retained) : (s.setRetained v).timebase = s.timebase := rfl
@[simp] theorem setRetained_cycles (s : State) (v : Retained) : (s.setRetained v).cycles = s.cycles := rfl
@[simp] theorem setRetained_due (s : State) (v : Retained) : (s.setRetained v).due = s.due := rfl
@[simp] theorem setRetained_demand (s : State) (v : Retained) : (s.setRetained v).demand = s.demand := rfl
@[simp] theorem setRetained_selector (s : State) (v : Retained) : (s.setRetained v).selector = s.selector := rfl
@[simp] theorem setRetained_gate (s : State) (v : Retained) : (s.setRetained v).gate = s.gate := rfl
@[simp] theorem setRetained_priority (s : State) (v : Retained) : (s.setRetained v).priority = s.priority := rfl
@[simp] theorem setRetained_roster (s : State) (v : Retained) : (s.setRetained v).roster = s.roster := rfl
@[simp] theorem setRetained_line (s : State) (v : Retained) : (s.setRetained v).line = s.line := rfl
@[simp] theorem setRetained_centre (s : State) (v : Retained) : (s.setRetained v).centre = s.centre := rfl
@[simp] theorem setRetained_handler (s : State) (v : Retained) : (s.setRetained v).handler = s.handler := rfl
@[simp] theorem setRetained_causeRaised (s : State) (v : Retained) : (s.setRetained v).causeRaised = s.causeRaised := rfl
@[simp] theorem setRetained_pending (s : State) (v : Retained) : (s.setRetained v).pending = s.pending := rfl

@[simp] theorem setEngine_inReset (s : State) (v : Engine) : (s.setEngine v).inReset = s.inReset := rfl
@[simp] theorem setEngine_straps (s : State) (v : Engine) : (s.setEngine v).straps = s.straps := rfl
@[simp] theorem setEngine_store (s : State) (v : Engine) : (s.setEngine v).store = s.store := rfl
@[simp] theorem setEngine_retention (s : State) (v : Engine) : (s.setEngine v).retention = s.retention := rfl
@[simp] theorem setEngine_retained (s : State) (v : Engine) : (s.setEngine v).retained = s.retained := rfl
@[simp] theorem setEngine_engine (s : State) (v : Engine) : (s.setEngine v).engine = v := rfl
@[simp] theorem setEngine_timebase (s : State) (v : Engine) : (s.setEngine v).timebase = s.timebase := rfl
@[simp] theorem setEngine_cycles (s : State) (v : Engine) : (s.setEngine v).cycles = s.cycles := rfl
@[simp] theorem setEngine_due (s : State) (v : Engine) : (s.setEngine v).due = s.due := rfl
@[simp] theorem setEngine_demand (s : State) (v : Engine) : (s.setEngine v).demand = s.demand := rfl
@[simp] theorem setEngine_selector (s : State) (v : Engine) : (s.setEngine v).selector = s.selector := rfl
@[simp] theorem setEngine_gate (s : State) (v : Engine) : (s.setEngine v).gate = s.gate := rfl
@[simp] theorem setEngine_priority (s : State) (v : Engine) : (s.setEngine v).priority = s.priority := rfl
@[simp] theorem setEngine_roster (s : State) (v : Engine) : (s.setEngine v).roster = s.roster := rfl
@[simp] theorem setEngine_line (s : State) (v : Engine) : (s.setEngine v).line = s.line := rfl
@[simp] theorem setEngine_centre (s : State) (v : Engine) : (s.setEngine v).centre = s.centre := rfl
@[simp] theorem setEngine_handler (s : State) (v : Engine) : (s.setEngine v).handler = s.handler := rfl
@[simp] theorem setEngine_causeRaised (s : State) (v : Engine) : (s.setEngine v).causeRaised = s.causeRaised := rfl
@[simp] theorem setEngine_pending (s : State) (v : Engine) : (s.setEngine v).pending = s.pending := rfl

@[simp] theorem setTimebase_inReset (s : State) (v : Timebase) : (s.setTimebase v).inReset = s.inReset := rfl
@[simp] theorem setTimebase_straps (s : State) (v : Timebase) : (s.setTimebase v).straps = s.straps := rfl
@[simp] theorem setTimebase_store (s : State) (v : Timebase) : (s.setTimebase v).store = s.store := rfl
@[simp] theorem setTimebase_retention (s : State) (v : Timebase) : (s.setTimebase v).retention = s.retention := rfl
@[simp] theorem setTimebase_retained (s : State) (v : Timebase) : (s.setTimebase v).retained = s.retained := rfl
@[simp] theorem setTimebase_engine (s : State) (v : Timebase) : (s.setTimebase v).engine = s.engine := rfl
@[simp] theorem setTimebase_timebase (s : State) (v : Timebase) : (s.setTimebase v).timebase = v := rfl
@[simp] theorem setTimebase_cycles (s : State) (v : Timebase) : (s.setTimebase v).cycles = s.cycles := rfl
@[simp] theorem setTimebase_due (s : State) (v : Timebase) : (s.setTimebase v).due = s.due := rfl
@[simp] theorem setTimebase_demand (s : State) (v : Timebase) : (s.setTimebase v).demand = s.demand := rfl
@[simp] theorem setTimebase_selector (s : State) (v : Timebase) : (s.setTimebase v).selector = s.selector := rfl
@[simp] theorem setTimebase_gate (s : State) (v : Timebase) : (s.setTimebase v).gate = s.gate := rfl
@[simp] theorem setTimebase_priority (s : State) (v : Timebase) : (s.setTimebase v).priority = s.priority := rfl
@[simp] theorem setTimebase_roster (s : State) (v : Timebase) : (s.setTimebase v).roster = s.roster := rfl
@[simp] theorem setTimebase_line (s : State) (v : Timebase) : (s.setTimebase v).line = s.line := rfl
@[simp] theorem setTimebase_centre (s : State) (v : Timebase) : (s.setTimebase v).centre = s.centre := rfl
@[simp] theorem setTimebase_handler (s : State) (v : Timebase) : (s.setTimebase v).handler = s.handler := rfl
@[simp] theorem setTimebase_causeRaised (s : State) (v : Timebase) : (s.setTimebase v).causeRaised = s.causeRaised := rfl
@[simp] theorem setTimebase_pending (s : State) (v : Timebase) : (s.setTimebase v).pending = s.pending := rfl

@[simp] theorem setCycles_inReset (s : State) (v : Vector LocalCycle 12) : (s.setCycles v).inReset = s.inReset := rfl
@[simp] theorem setCycles_straps (s : State) (v : Vector LocalCycle 12) : (s.setCycles v).straps = s.straps := rfl
@[simp] theorem setCycles_store (s : State) (v : Vector LocalCycle 12) : (s.setCycles v).store = s.store := rfl
@[simp] theorem setCycles_retention (s : State) (v : Vector LocalCycle 12) : (s.setCycles v).retention = s.retention := rfl
@[simp] theorem setCycles_retained (s : State) (v : Vector LocalCycle 12) : (s.setCycles v).retained = s.retained := rfl
@[simp] theorem setCycles_engine (s : State) (v : Vector LocalCycle 12) : (s.setCycles v).engine = s.engine := rfl
@[simp] theorem setCycles_timebase (s : State) (v : Vector LocalCycle 12) : (s.setCycles v).timebase = s.timebase := rfl
@[simp] theorem setCycles_cycles (s : State) (v : Vector LocalCycle 12) : (s.setCycles v).cycles = v := rfl
@[simp] theorem setCycles_due (s : State) (v : Vector LocalCycle 12) : (s.setCycles v).due = s.due := rfl
@[simp] theorem setCycles_demand (s : State) (v : Vector LocalCycle 12) : (s.setCycles v).demand = s.demand := rfl
@[simp] theorem setCycles_selector (s : State) (v : Vector LocalCycle 12) : (s.setCycles v).selector = s.selector := rfl
@[simp] theorem setCycles_gate (s : State) (v : Vector LocalCycle 12) : (s.setCycles v).gate = s.gate := rfl
@[simp] theorem setCycles_priority (s : State) (v : Vector LocalCycle 12) : (s.setCycles v).priority = s.priority := rfl
@[simp] theorem setCycles_roster (s : State) (v : Vector LocalCycle 12) : (s.setCycles v).roster = s.roster := rfl
@[simp] theorem setCycles_line (s : State) (v : Vector LocalCycle 12) : (s.setCycles v).line = s.line := rfl
@[simp] theorem setCycles_centre (s : State) (v : Vector LocalCycle 12) : (s.setCycles v).centre = s.centre := rfl
@[simp] theorem setCycles_handler (s : State) (v : Vector LocalCycle 12) : (s.setCycles v).handler = s.handler := rfl
@[simp] theorem setCycles_causeRaised (s : State) (v : Vector LocalCycle 12) : (s.setCycles v).causeRaised = s.causeRaised := rfl
@[simp] theorem setCycles_pending (s : State) (v : Vector LocalCycle 12) : (s.setCycles v).pending = s.pending := rfl

@[simp] theorem setDue_inReset (s : State) (v : Due) : (s.setDue v).inReset = s.inReset := rfl
@[simp] theorem setDue_straps (s : State) (v : Due) : (s.setDue v).straps = s.straps := rfl
@[simp] theorem setDue_store (s : State) (v : Due) : (s.setDue v).store = s.store := rfl
@[simp] theorem setDue_retention (s : State) (v : Due) : (s.setDue v).retention = s.retention := rfl
@[simp] theorem setDue_retained (s : State) (v : Due) : (s.setDue v).retained = s.retained := rfl
@[simp] theorem setDue_engine (s : State) (v : Due) : (s.setDue v).engine = s.engine := rfl
@[simp] theorem setDue_timebase (s : State) (v : Due) : (s.setDue v).timebase = s.timebase := rfl
@[simp] theorem setDue_cycles (s : State) (v : Due) : (s.setDue v).cycles = s.cycles := rfl
@[simp] theorem setDue_due (s : State) (v : Due) : (s.setDue v).due = v := rfl
@[simp] theorem setDue_demand (s : State) (v : Due) : (s.setDue v).demand = s.demand := rfl
@[simp] theorem setDue_selector (s : State) (v : Due) : (s.setDue v).selector = s.selector := rfl
@[simp] theorem setDue_gate (s : State) (v : Due) : (s.setDue v).gate = s.gate := rfl
@[simp] theorem setDue_priority (s : State) (v : Due) : (s.setDue v).priority = s.priority := rfl
@[simp] theorem setDue_roster (s : State) (v : Due) : (s.setDue v).roster = s.roster := rfl
@[simp] theorem setDue_line (s : State) (v : Due) : (s.setDue v).line = s.line := rfl
@[simp] theorem setDue_centre (s : State) (v : Due) : (s.setDue v).centre = s.centre := rfl
@[simp] theorem setDue_handler (s : State) (v : Due) : (s.setDue v).handler = s.handler := rfl
@[simp] theorem setDue_causeRaised (s : State) (v : Due) : (s.setDue v).causeRaised = s.causeRaised := rfl
@[simp] theorem setDue_pending (s : State) (v : Due) : (s.setDue v).pending = s.pending := rfl

@[simp] theorem setDemand_inReset (s : State) (v : Demand) : (s.setDemand v).inReset = s.inReset := rfl
@[simp] theorem setDemand_straps (s : State) (v : Demand) : (s.setDemand v).straps = s.straps := rfl
@[simp] theorem setDemand_store (s : State) (v : Demand) : (s.setDemand v).store = s.store := rfl
@[simp] theorem setDemand_retention (s : State) (v : Demand) : (s.setDemand v).retention = s.retention := rfl
@[simp] theorem setDemand_retained (s : State) (v : Demand) : (s.setDemand v).retained = s.retained := rfl
@[simp] theorem setDemand_engine (s : State) (v : Demand) : (s.setDemand v).engine = s.engine := rfl
@[simp] theorem setDemand_timebase (s : State) (v : Demand) : (s.setDemand v).timebase = s.timebase := rfl
@[simp] theorem setDemand_cycles (s : State) (v : Demand) : (s.setDemand v).cycles = s.cycles := rfl
@[simp] theorem setDemand_due (s : State) (v : Demand) : (s.setDemand v).due = s.due := rfl
@[simp] theorem setDemand_demand (s : State) (v : Demand) : (s.setDemand v).demand = v := rfl
@[simp] theorem setDemand_selector (s : State) (v : Demand) : (s.setDemand v).selector = s.selector := rfl
@[simp] theorem setDemand_gate (s : State) (v : Demand) : (s.setDemand v).gate = s.gate := rfl
@[simp] theorem setDemand_priority (s : State) (v : Demand) : (s.setDemand v).priority = s.priority := rfl
@[simp] theorem setDemand_roster (s : State) (v : Demand) : (s.setDemand v).roster = s.roster := rfl
@[simp] theorem setDemand_line (s : State) (v : Demand) : (s.setDemand v).line = s.line := rfl
@[simp] theorem setDemand_centre (s : State) (v : Demand) : (s.setDemand v).centre = s.centre := rfl
@[simp] theorem setDemand_handler (s : State) (v : Demand) : (s.setDemand v).handler = s.handler := rfl
@[simp] theorem setDemand_causeRaised (s : State) (v : Demand) : (s.setDemand v).causeRaised = s.causeRaised := rfl
@[simp] theorem setDemand_pending (s : State) (v : Demand) : (s.setDemand v).pending = s.pending := rfl

@[simp] theorem setSelector_inReset (s : State) (v : Selector) : (s.setSelector v).inReset = s.inReset := rfl
@[simp] theorem setSelector_straps (s : State) (v : Selector) : (s.setSelector v).straps = s.straps := rfl
@[simp] theorem setSelector_store (s : State) (v : Selector) : (s.setSelector v).store = s.store := rfl
@[simp] theorem setSelector_retention (s : State) (v : Selector) : (s.setSelector v).retention = s.retention := rfl
@[simp] theorem setSelector_retained (s : State) (v : Selector) : (s.setSelector v).retained = s.retained := rfl
@[simp] theorem setSelector_engine (s : State) (v : Selector) : (s.setSelector v).engine = s.engine := rfl
@[simp] theorem setSelector_timebase (s : State) (v : Selector) : (s.setSelector v).timebase = s.timebase := rfl
@[simp] theorem setSelector_cycles (s : State) (v : Selector) : (s.setSelector v).cycles = s.cycles := rfl
@[simp] theorem setSelector_due (s : State) (v : Selector) : (s.setSelector v).due = s.due := rfl
@[simp] theorem setSelector_demand (s : State) (v : Selector) : (s.setSelector v).demand = s.demand := rfl
@[simp] theorem setSelector_selector (s : State) (v : Selector) : (s.setSelector v).selector = v := rfl
@[simp] theorem setSelector_gate (s : State) (v : Selector) : (s.setSelector v).gate = s.gate := rfl
@[simp] theorem setSelector_priority (s : State) (v : Selector) : (s.setSelector v).priority = s.priority := rfl
@[simp] theorem setSelector_roster (s : State) (v : Selector) : (s.setSelector v).roster = s.roster := rfl
@[simp] theorem setSelector_line (s : State) (v : Selector) : (s.setSelector v).line = s.line := rfl
@[simp] theorem setSelector_centre (s : State) (v : Selector) : (s.setSelector v).centre = s.centre := rfl
@[simp] theorem setSelector_handler (s : State) (v : Selector) : (s.setSelector v).handler = s.handler := rfl
@[simp] theorem setSelector_causeRaised (s : State) (v : Selector) : (s.setSelector v).causeRaised = s.causeRaised := rfl
@[simp] theorem setSelector_pending (s : State) (v : Selector) : (s.setSelector v).pending = s.pending := rfl

@[simp] theorem setGate_inReset (s : State) (v : Gate) : (s.setGate v).inReset = s.inReset := rfl
@[simp] theorem setGate_straps (s : State) (v : Gate) : (s.setGate v).straps = s.straps := rfl
@[simp] theorem setGate_store (s : State) (v : Gate) : (s.setGate v).store = s.store := rfl
@[simp] theorem setGate_retention (s : State) (v : Gate) : (s.setGate v).retention = s.retention := rfl
@[simp] theorem setGate_retained (s : State) (v : Gate) : (s.setGate v).retained = s.retained := rfl
@[simp] theorem setGate_engine (s : State) (v : Gate) : (s.setGate v).engine = s.engine := rfl
@[simp] theorem setGate_timebase (s : State) (v : Gate) : (s.setGate v).timebase = s.timebase := rfl
@[simp] theorem setGate_cycles (s : State) (v : Gate) : (s.setGate v).cycles = s.cycles := rfl
@[simp] theorem setGate_due (s : State) (v : Gate) : (s.setGate v).due = s.due := rfl
@[simp] theorem setGate_demand (s : State) (v : Gate) : (s.setGate v).demand = s.demand := rfl
@[simp] theorem setGate_selector (s : State) (v : Gate) : (s.setGate v).selector = s.selector := rfl
@[simp] theorem setGate_gate (s : State) (v : Gate) : (s.setGate v).gate = v := rfl
@[simp] theorem setGate_priority (s : State) (v : Gate) : (s.setGate v).priority = s.priority := rfl
@[simp] theorem setGate_roster (s : State) (v : Gate) : (s.setGate v).roster = s.roster := rfl
@[simp] theorem setGate_line (s : State) (v : Gate) : (s.setGate v).line = s.line := rfl
@[simp] theorem setGate_centre (s : State) (v : Gate) : (s.setGate v).centre = s.centre := rfl
@[simp] theorem setGate_handler (s : State) (v : Gate) : (s.setGate v).handler = s.handler := rfl
@[simp] theorem setGate_causeRaised (s : State) (v : Gate) : (s.setGate v).causeRaised = s.causeRaised := rfl
@[simp] theorem setGate_pending (s : State) (v : Gate) : (s.setGate v).pending = s.pending := rfl

@[simp] theorem setPriority_inReset (s : State) (v : Priority) : (s.setPriority v).inReset = s.inReset := rfl
@[simp] theorem setPriority_straps (s : State) (v : Priority) : (s.setPriority v).straps = s.straps := rfl
@[simp] theorem setPriority_store (s : State) (v : Priority) : (s.setPriority v).store = s.store := rfl
@[simp] theorem setPriority_retention (s : State) (v : Priority) : (s.setPriority v).retention = s.retention := rfl
@[simp] theorem setPriority_retained (s : State) (v : Priority) : (s.setPriority v).retained = s.retained := rfl
@[simp] theorem setPriority_engine (s : State) (v : Priority) : (s.setPriority v).engine = s.engine := rfl
@[simp] theorem setPriority_timebase (s : State) (v : Priority) : (s.setPriority v).timebase = s.timebase := rfl
@[simp] theorem setPriority_cycles (s : State) (v : Priority) : (s.setPriority v).cycles = s.cycles := rfl
@[simp] theorem setPriority_due (s : State) (v : Priority) : (s.setPriority v).due = s.due := rfl
@[simp] theorem setPriority_demand (s : State) (v : Priority) : (s.setPriority v).demand = s.demand := rfl
@[simp] theorem setPriority_selector (s : State) (v : Priority) : (s.setPriority v).selector = s.selector := rfl
@[simp] theorem setPriority_gate (s : State) (v : Priority) : (s.setPriority v).gate = s.gate := rfl
@[simp] theorem setPriority_priority (s : State) (v : Priority) : (s.setPriority v).priority = v := rfl
@[simp] theorem setPriority_roster (s : State) (v : Priority) : (s.setPriority v).roster = s.roster := rfl
@[simp] theorem setPriority_line (s : State) (v : Priority) : (s.setPriority v).line = s.line := rfl
@[simp] theorem setPriority_centre (s : State) (v : Priority) : (s.setPriority v).centre = s.centre := rfl
@[simp] theorem setPriority_handler (s : State) (v : Priority) : (s.setPriority v).handler = s.handler := rfl
@[simp] theorem setPriority_causeRaised (s : State) (v : Priority) : (s.setPriority v).causeRaised = s.causeRaised := rfl
@[simp] theorem setPriority_pending (s : State) (v : Priority) : (s.setPriority v).pending = s.pending := rfl

@[simp] theorem setRoster_inReset (s : State) (v : Roster) : (s.setRoster v).inReset = s.inReset := rfl
@[simp] theorem setRoster_straps (s : State) (v : Roster) : (s.setRoster v).straps = s.straps := rfl
@[simp] theorem setRoster_store (s : State) (v : Roster) : (s.setRoster v).store = s.store := rfl
@[simp] theorem setRoster_retention (s : State) (v : Roster) : (s.setRoster v).retention = s.retention := rfl
@[simp] theorem setRoster_retained (s : State) (v : Roster) : (s.setRoster v).retained = s.retained := rfl
@[simp] theorem setRoster_engine (s : State) (v : Roster) : (s.setRoster v).engine = s.engine := rfl
@[simp] theorem setRoster_timebase (s : State) (v : Roster) : (s.setRoster v).timebase = s.timebase := rfl
@[simp] theorem setRoster_cycles (s : State) (v : Roster) : (s.setRoster v).cycles = s.cycles := rfl
@[simp] theorem setRoster_due (s : State) (v : Roster) : (s.setRoster v).due = s.due := rfl
@[simp] theorem setRoster_demand (s : State) (v : Roster) : (s.setRoster v).demand = s.demand := rfl
@[simp] theorem setRoster_selector (s : State) (v : Roster) : (s.setRoster v).selector = s.selector := rfl
@[simp] theorem setRoster_gate (s : State) (v : Roster) : (s.setRoster v).gate = s.gate := rfl
@[simp] theorem setRoster_priority (s : State) (v : Roster) : (s.setRoster v).priority = s.priority := rfl
@[simp] theorem setRoster_roster (s : State) (v : Roster) : (s.setRoster v).roster = v := rfl
@[simp] theorem setRoster_line (s : State) (v : Roster) : (s.setRoster v).line = s.line := rfl
@[simp] theorem setRoster_centre (s : State) (v : Roster) : (s.setRoster v).centre = s.centre := rfl
@[simp] theorem setRoster_handler (s : State) (v : Roster) : (s.setRoster v).handler = s.handler := rfl
@[simp] theorem setRoster_causeRaised (s : State) (v : Roster) : (s.setRoster v).causeRaised = s.causeRaised := rfl
@[simp] theorem setRoster_pending (s : State) (v : Roster) : (s.setRoster v).pending = s.pending := rfl

@[simp] theorem setLine_inReset (s : State) (v : Line) : (s.setLine v).inReset = s.inReset := rfl
@[simp] theorem setLine_straps (s : State) (v : Line) : (s.setLine v).straps = s.straps := rfl
@[simp] theorem setLine_store (s : State) (v : Line) : (s.setLine v).store = s.store := rfl
@[simp] theorem setLine_retention (s : State) (v : Line) : (s.setLine v).retention = s.retention := rfl
@[simp] theorem setLine_retained (s : State) (v : Line) : (s.setLine v).retained = s.retained := rfl
@[simp] theorem setLine_engine (s : State) (v : Line) : (s.setLine v).engine = s.engine := rfl
@[simp] theorem setLine_timebase (s : State) (v : Line) : (s.setLine v).timebase = s.timebase := rfl
@[simp] theorem setLine_cycles (s : State) (v : Line) : (s.setLine v).cycles = s.cycles := rfl
@[simp] theorem setLine_due (s : State) (v : Line) : (s.setLine v).due = s.due := rfl
@[simp] theorem setLine_demand (s : State) (v : Line) : (s.setLine v).demand = s.demand := rfl
@[simp] theorem setLine_selector (s : State) (v : Line) : (s.setLine v).selector = s.selector := rfl
@[simp] theorem setLine_gate (s : State) (v : Line) : (s.setLine v).gate = s.gate := rfl
@[simp] theorem setLine_priority (s : State) (v : Line) : (s.setLine v).priority = s.priority := rfl
@[simp] theorem setLine_roster (s : State) (v : Line) : (s.setLine v).roster = s.roster := rfl
@[simp] theorem setLine_line (s : State) (v : Line) : (s.setLine v).line = v := rfl
@[simp] theorem setLine_centre (s : State) (v : Line) : (s.setLine v).centre = s.centre := rfl
@[simp] theorem setLine_handler (s : State) (v : Line) : (s.setLine v).handler = s.handler := rfl
@[simp] theorem setLine_causeRaised (s : State) (v : Line) : (s.setLine v).causeRaised = s.causeRaised := rfl
@[simp] theorem setLine_pending (s : State) (v : Line) : (s.setLine v).pending = s.pending := rfl

@[simp] theorem setCentre_inReset (s : State) (v : Centre) : (s.setCentre v).inReset = s.inReset := rfl
@[simp] theorem setCentre_straps (s : State) (v : Centre) : (s.setCentre v).straps = s.straps := rfl
@[simp] theorem setCentre_store (s : State) (v : Centre) : (s.setCentre v).store = s.store := rfl
@[simp] theorem setCentre_retention (s : State) (v : Centre) : (s.setCentre v).retention = s.retention := rfl
@[simp] theorem setCentre_retained (s : State) (v : Centre) : (s.setCentre v).retained = s.retained := rfl
@[simp] theorem setCentre_engine (s : State) (v : Centre) : (s.setCentre v).engine = s.engine := rfl
@[simp] theorem setCentre_timebase (s : State) (v : Centre) : (s.setCentre v).timebase = s.timebase := rfl
@[simp] theorem setCentre_cycles (s : State) (v : Centre) : (s.setCentre v).cycles = s.cycles := rfl
@[simp] theorem setCentre_due (s : State) (v : Centre) : (s.setCentre v).due = s.due := rfl
@[simp] theorem setCentre_demand (s : State) (v : Centre) : (s.setCentre v).demand = s.demand := rfl
@[simp] theorem setCentre_selector (s : State) (v : Centre) : (s.setCentre v).selector = s.selector := rfl
@[simp] theorem setCentre_gate (s : State) (v : Centre) : (s.setCentre v).gate = s.gate := rfl
@[simp] theorem setCentre_priority (s : State) (v : Centre) : (s.setCentre v).priority = s.priority := rfl
@[simp] theorem setCentre_roster (s : State) (v : Centre) : (s.setCentre v).roster = s.roster := rfl
@[simp] theorem setCentre_line (s : State) (v : Centre) : (s.setCentre v).line = s.line := rfl
@[simp] theorem setCentre_centre (s : State) (v : Centre) : (s.setCentre v).centre = v := rfl
@[simp] theorem setCentre_handler (s : State) (v : Centre) : (s.setCentre v).handler = s.handler := rfl
@[simp] theorem setCentre_causeRaised (s : State) (v : Centre) : (s.setCentre v).causeRaised = s.causeRaised := rfl
@[simp] theorem setCentre_pending (s : State) (v : Centre) : (s.setCentre v).pending = s.pending := rfl

@[simp] theorem setHandler_inReset (s : State) (v : Handler) : (s.setHandler v).inReset = s.inReset := rfl
@[simp] theorem setHandler_straps (s : State) (v : Handler) : (s.setHandler v).straps = s.straps := rfl
@[simp] theorem setHandler_store (s : State) (v : Handler) : (s.setHandler v).store = s.store := rfl
@[simp] theorem setHandler_retention (s : State) (v : Handler) : (s.setHandler v).retention = s.retention := rfl
@[simp] theorem setHandler_retained (s : State) (v : Handler) : (s.setHandler v).retained = s.retained := rfl
@[simp] theorem setHandler_engine (s : State) (v : Handler) : (s.setHandler v).engine = s.engine := rfl
@[simp] theorem setHandler_timebase (s : State) (v : Handler) : (s.setHandler v).timebase = s.timebase := rfl
@[simp] theorem setHandler_cycles (s : State) (v : Handler) : (s.setHandler v).cycles = s.cycles := rfl
@[simp] theorem setHandler_due (s : State) (v : Handler) : (s.setHandler v).due = s.due := rfl
@[simp] theorem setHandler_demand (s : State) (v : Handler) : (s.setHandler v).demand = s.demand := rfl
@[simp] theorem setHandler_selector (s : State) (v : Handler) : (s.setHandler v).selector = s.selector := rfl
@[simp] theorem setHandler_gate (s : State) (v : Handler) : (s.setHandler v).gate = s.gate := rfl
@[simp] theorem setHandler_priority (s : State) (v : Handler) : (s.setHandler v).priority = s.priority := rfl
@[simp] theorem setHandler_roster (s : State) (v : Handler) : (s.setHandler v).roster = s.roster := rfl
@[simp] theorem setHandler_line (s : State) (v : Handler) : (s.setHandler v).line = s.line := rfl
@[simp] theorem setHandler_centre (s : State) (v : Handler) : (s.setHandler v).centre = s.centre := rfl
@[simp] theorem setHandler_handler (s : State) (v : Handler) : (s.setHandler v).handler = v := rfl
@[simp] theorem setHandler_causeRaised (s : State) (v : Handler) : (s.setHandler v).causeRaised = s.causeRaised := rfl
@[simp] theorem setHandler_pending (s : State) (v : Handler) : (s.setHandler v).pending = s.pending := rfl

@[simp] theorem setCauseRaised_inReset (s : State) (v : Bool) : (s.setCauseRaised v).inReset = s.inReset := rfl
@[simp] theorem setCauseRaised_straps (s : State) (v : Bool) : (s.setCauseRaised v).straps = s.straps := rfl
@[simp] theorem setCauseRaised_store (s : State) (v : Bool) : (s.setCauseRaised v).store = s.store := rfl
@[simp] theorem setCauseRaised_retention (s : State) (v : Bool) : (s.setCauseRaised v).retention = s.retention := rfl
@[simp] theorem setCauseRaised_retained (s : State) (v : Bool) : (s.setCauseRaised v).retained = s.retained := rfl
@[simp] theorem setCauseRaised_engine (s : State) (v : Bool) : (s.setCauseRaised v).engine = s.engine := rfl
@[simp] theorem setCauseRaised_timebase (s : State) (v : Bool) : (s.setCauseRaised v).timebase = s.timebase := rfl
@[simp] theorem setCauseRaised_cycles (s : State) (v : Bool) : (s.setCauseRaised v).cycles = s.cycles := rfl
@[simp] theorem setCauseRaised_due (s : State) (v : Bool) : (s.setCauseRaised v).due = s.due := rfl
@[simp] theorem setCauseRaised_demand (s : State) (v : Bool) : (s.setCauseRaised v).demand = s.demand := rfl
@[simp] theorem setCauseRaised_selector (s : State) (v : Bool) : (s.setCauseRaised v).selector = s.selector := rfl
@[simp] theorem setCauseRaised_gate (s : State) (v : Bool) : (s.setCauseRaised v).gate = s.gate := rfl
@[simp] theorem setCauseRaised_priority (s : State) (v : Bool) : (s.setCauseRaised v).priority = s.priority := rfl
@[simp] theorem setCauseRaised_roster (s : State) (v : Bool) : (s.setCauseRaised v).roster = s.roster := rfl
@[simp] theorem setCauseRaised_line (s : State) (v : Bool) : (s.setCauseRaised v).line = s.line := rfl
@[simp] theorem setCauseRaised_centre (s : State) (v : Bool) : (s.setCauseRaised v).centre = s.centre := rfl
@[simp] theorem setCauseRaised_handler (s : State) (v : Bool) : (s.setCauseRaised v).handler = s.handler := rfl
@[simp] theorem setCauseRaised_causeRaised (s : State) (v : Bool) : (s.setCauseRaised v).causeRaised = v := rfl
@[simp] theorem setCauseRaised_pending (s : State) (v : Bool) : (s.setCauseRaised v).pending = s.pending := rfl

@[simp] theorem setPending_inReset (s : State) (v : List Instr) : (s.setPending v).inReset = s.inReset := rfl
@[simp] theorem setPending_straps (s : State) (v : List Instr) : (s.setPending v).straps = s.straps := rfl
@[simp] theorem setPending_store (s : State) (v : List Instr) : (s.setPending v).store = s.store := rfl
@[simp] theorem setPending_retention (s : State) (v : List Instr) : (s.setPending v).retention = s.retention := rfl
@[simp] theorem setPending_retained (s : State) (v : List Instr) : (s.setPending v).retained = s.retained := rfl
@[simp] theorem setPending_engine (s : State) (v : List Instr) : (s.setPending v).engine = s.engine := rfl
@[simp] theorem setPending_timebase (s : State) (v : List Instr) : (s.setPending v).timebase = s.timebase := rfl
@[simp] theorem setPending_cycles (s : State) (v : List Instr) : (s.setPending v).cycles = s.cycles := rfl
@[simp] theorem setPending_due (s : State) (v : List Instr) : (s.setPending v).due = s.due := rfl
@[simp] theorem setPending_demand (s : State) (v : List Instr) : (s.setPending v).demand = s.demand := rfl
@[simp] theorem setPending_selector (s : State) (v : List Instr) : (s.setPending v).selector = s.selector := rfl
@[simp] theorem setPending_gate (s : State) (v : List Instr) : (s.setPending v).gate = s.gate := rfl
@[simp] theorem setPending_priority (s : State) (v : List Instr) : (s.setPending v).priority = s.priority := rfl
@[simp] theorem setPending_roster (s : State) (v : List Instr) : (s.setPending v).roster = s.roster := rfl
@[simp] theorem setPending_line (s : State) (v : List Instr) : (s.setPending v).line = s.line := rfl
@[simp] theorem setPending_centre (s : State) (v : List Instr) : (s.setPending v).centre = s.centre := rfl
@[simp] theorem setPending_handler (s : State) (v : List Instr) : (s.setPending v).handler = s.handler := rfl
@[simp] theorem setPending_causeRaised (s : State) (v : List Instr) : (s.setPending v).causeRaised = s.causeRaised := rfl
@[simp] theorem setPending_pending (s : State) (v : List Instr) : (s.setPending v).pending = v := rfl

end Sys2Proof.Machine
end

