-- ==== Sys2Proof/Laws/Line.lean ====
section
/-! SUPPORT. What the choice and the start of a frame on the line can do (R155), said once: its cases, its
frame, and what the port holds after it. -/

namespace Sys2Proof.Machine

open Sys2Proof

/-- The Line Port with both credits refilled (R155, row 4). -/
def Line.refilled (l : Line) : Line :=
  { l with steerCredit := Config.steerCredits, replyCredit := Config.replyCredits }

/-- A choice of row 3 starts the oldest frame of the REPLY queue. -/
theorem chooseReply_cases {s u : State} {l : Line} (h : chooseReply s l = some u) :
    ∃ r rest, l.replies = r :: rest ∧
      u = launch s { l with replies := rest } (.queued r.item) r.losses := by
  unfold chooseReply at h
  split at h
  · cases h
  · next r rest hr =>
    split at h
    · exact ⟨r, rest, hr, by simpa using h.symm⟩
    · cases h

/-- What a choice by the credits can be: the oldest steer or the oldest frame of the REPLY queue. -/
theorem chooseByCredit_cases {s u : State} {l : Line} (h : chooseByCredit s l = some u) :
    (∃ w rest, l.steers = w :: rest ∧
      u = launch s { l with steers := rest } (.steer w.steer) w.losses) ∨
    (∃ r rest, l.replies = r :: rest ∧
      u = launch s { l with replies := rest } (.queued r.item) r.losses) := by
  unfold chooseByCredit at h
  split at h
  · exact .inr (chooseReply_cases h)
  · next w rest hw =>
    split at h
    · exact .inl ⟨w, rest, hw, by simpa using h.symm⟩
    · exact .inr (chooseReply_cases h)

/-- Everything that starting a frame can do (R155): nothing, or the start of the waiting beat, or of the
oldest steer or reply, under the credits as they stand or refilled. -/
theorem startLine_cases (s : State) :
    startLine s = s ∨
    (s.line.inFlight = none ∧ ∃ b, s.line.beat = some b ∧
      startLine s = launch s { s.line with beat := none } (.beat b.seq) b.losses) ∨
    (s.line.inFlight = none ∧ ∃ l, (l = s.line ∨ l = s.line.refilled) ∧
      ((∃ w rest, s.line.steers = w :: rest ∧
        startLine s = launch s { l with steers := rest } (.steer w.steer) w.losses) ∨
       (∃ r rest, s.line.replies = r :: rest ∧
        startLine s = launch s { l with replies := rest } (.queued r.item) r.losses))) := by
  unfold startLine
  split
  · next hf =>
    split
    · next b hb => exact .inr (.inl ⟨hf.2, b, hb, rfl⟩)
    · split
      · next u hu => exact .inr (.inr ⟨hf.2, s.line, .inl rfl, chooseByCredit_cases hu⟩)
      · split
        · exact .inl rfl
        · cases hu : chooseByCredit s s.line.refilled with
          | none => exact .inl (by simpa [Line.refilled] using congrArg (·.getD s) hu)
          | some u =>
            refine .inr (.inr ⟨hf.2, s.line.refilled, .inr rfl, ?_⟩)
            have := congrArg (·.getD s) hu
            simp only [Option.getD_some] at this
            simp only [Line.refilled] at this ⊢
            rw [this]
            simpa [Line.refilled] using chooseByCredit_cases hu
  · exact .inl rfl

/-- Starting a frame changes the Line Port alone. -/
@[simp] theorem startLine_frame (s : State) :
    (startLine s).inReset = s.inReset ∧ (startLine s).straps = s.straps ∧
    (startLine s).store = s.store ∧ (startLine s).retention = s.retention ∧
    (startLine s).retained = s.retained ∧ (startLine s).engine = s.engine ∧
    (startLine s).timebase = s.timebase ∧ (startLine s).cycles = s.cycles ∧
    (startLine s).due = s.due ∧ (startLine s).demand = s.demand ∧
    (startLine s).selector = s.selector ∧ (startLine s).gate = s.gate ∧
    (startLine s).priority = s.priority ∧ (startLine s).roster = s.roster ∧
    (startLine s).centre = s.centre ∧ (startLine s).handler = s.handler ∧
    (startLine s).causeRaised = s.causeRaised ∧ (startLine s).pending = s.pending := by
  obtain h | ⟨_, b, _, h⟩ | ⟨_, l, _, ⟨w, rest, _, h⟩ | ⟨r, rest, _, h⟩⟩ := startLine_cases s <;>
    rw [h] <;> simp [launch]

/-- Starting a frame leaves the line state, the receive queue and every counter as they were. -/
@[simp] theorem startLine_line (s : State) :
    (startLine s).line.state = s.line.state ∧ (startLine s).line.rx = s.line.rx ∧
    (startLine s).line.errors = s.line.errors ∧
    (startLine s).line.arbitrationDrops = s.line.arbitrationDrops ∧
    (startLine s).line.missedBeats = s.line.missedBeats := by
  obtain h | ⟨_, b, _, h⟩ | ⟨_, l, rfl | rfl, ⟨w, rest, _, h⟩ | ⟨r, rest, _, h⟩⟩ :=
    startLine_cases s <;> rw [h] <;> simp [launch, Line.refilled]

/-- Starting a frame moves it from its queue to the line, so the port holds the same frames. -/
@[simp] theorem startLine_holds (s : State) :
    lineBeats (startLine s).line = lineBeats s.line ∧
    lineSteers (startLine s).line = lineSteers s.line ∧
    lineReplies (startLine s).line = lineReplies s.line := by
  obtain h | ⟨hf, b, hb, h⟩ | ⟨hf, l, rfl | rfl, ⟨w, rest, hw, h⟩ | ⟨r, rest, hr, h⟩⟩ :=
    startLine_cases s <;> rw [h] <;>
    simp_all [launch, Line.refilled, lineBeats, lineSteers, lineReplies, flightBeats, flightSteers,
      flightReplies]

/-- The number of replies does not change when a frame starts. -/
@[simp] theorem startLine_lineReplyCount (s : State) :
    lineReplyCount (startLine s).line = lineReplyCount s.line := by
  obtain h | ⟨hf, b, hb, h⟩ | ⟨hf, l, rfl | rfl, ⟨w, rest, hw, h⟩ | ⟨r, rest, hr, h⟩⟩ :=
    startLine_cases s <;> rw [h] <;>
    simp_all [launch, Line.refilled, lineReplyCount, LineItem.isReply]

/-- The credits stay when a frame starts, or are refilled (R155, row 4). -/
theorem startLine_credits (s : State) :
    ((startLine s).line.steerCredit = s.line.steerCredit ∧
      (startLine s).line.replyCredit = s.line.replyCredit) ∨
    ((startLine s).line.steerCredit = 3 ∧ (startLine s).line.replyCredit = 1) := by
  obtain h | ⟨_, b, _, h⟩ | ⟨_, l, rfl | rfl, ⟨w, rest, _, h⟩ | ⟨r, rest, _, h⟩⟩ :=
    startLine_cases s <;> rw [h] <;>
    simp [launch, Line.refilled, Config.steerCredits, Config.replyCredits]

/-- After the choice nothing waits on a FREE line with no frame in flight: what could start has
started (R155). -/
theorem startLine_goes (s : State) : LineGoes (startLine s) := by
  intro _ hfree hidle
  have hcase : startLine s = s := by
    obtain h | ⟨_, b, _, h⟩ | ⟨_, l, _, ⟨w, rest, _, h⟩ | ⟨r, rest, _, h⟩⟩ := startLine_cases s
    · exact h
    all_goals rw [h] at hidle; simp [launch] at hidle
  rw [hcase] at hfree hidle
  have hc := hcase
  rw [hcase]
  unfold startLine at hc
  rw [if_pos ⟨hfree, hidle⟩] at hc
  cases hb : s.line.beat with
  | some b =>
    have := congrArg (fun u => u.line.inFlight) hc
    simp [hb, launch, hidle] at this
  | none =>
    have flight : ∀ {l u}, chooseByCredit s l = some u → u.line.inFlight ≠ none := by
      intro l u h
      obtain ⟨w, rest, _, rfl⟩ | ⟨r, rest, _, rfl⟩ := chooseByCredit_cases h <;> simp [launch]
    refine ⟨rfl, ?_⟩
    simp only [hb] at hc
    cases h1 : chooseByCredit s s.line with
    | some u =>
      simp only [h1] at hc
      exact absurd hidle (hc ▸ flight h1)
    | none =>
      simp only [h1] at hc
      cases hs : s.line.steers <;> cases hr : s.line.replies <;>
        simp_all [chooseByCredit, chooseReply, Config.steerCredits, Config.replyCredits] <;>
        have := congrArg (fun u => u.line.inFlight) hc <;> simp [launch, hidle] at this

/-- The Line Port keeps its bounds when a frame starts. -/
theorem startLine_bounded {s : State} (h : s.line.Bounded) : (startLine s).line.Bounded := by
  have hc := startLine_credits s
  have hm := startLine_line s
  obtain ⟨_, hrx, he, hd, hmb⟩ := hm
  refine ⟨by rw [hrx]; exact h.rx, by rw [startLine_lineReplyCount]; exact h.replies, ?_, ?_, ?_,
    ?_, ?_, ?_, ?_, by rw [he]; exact h.errors, by rw [hd]; exact h.drops, by rw [hmb]; exact h.missed⟩
  case refine_2 => have := h.steerCredit; simp only [Config.steerCredits] at *; omega
  case refine_3 => have := h.replyCredit; simp only [Config.replyCredits] at *; omega
  all_goals
    have h1 := h.steers
    have h2 := h.beatLosses
    have h3 := h.steerLosses
    have h4 := h.replyLosses
    have h5 := h.losses
    obtain e | ⟨hf, b, hb, e⟩ | ⟨hf, l, rfl | rfl, ⟨w, rest, hw, e⟩ | ⟨r, rest, hr, e⟩⟩ :=
      startLine_cases s <;> rw [e] <;> simp_all [launch, Line.refilled]

end Sys2Proof.Machine
end

