-- ==== Sys2Proof/Laws/Frames.lean ====
section
/-! SUPPORT. The frame of each shared operation: every block it leaves as it was. One lemma for each
operation; each of its parts is a rewrite rule. -/

namespace Sys2Proof.Machine

open Sys2Proof

@[simp] theorem setCycle_frame (j : Junction) (r : LocalCycle) (s : State) :
    (setCycle s j r).inReset = s.inReset ∧ (setCycle s j r).straps = s.straps ∧
    (setCycle s j r).store = s.store ∧ (setCycle s j r).retention = s.retention ∧
    (setCycle s j r).retained = s.retained ∧ (setCycle s j r).engine = s.engine ∧
    (setCycle s j r).timebase = s.timebase ∧ (setCycle s j r).due = s.due ∧
    (setCycle s j r).demand = s.demand ∧ (setCycle s j r).selector = s.selector ∧
    (setCycle s j r).gate = s.gate ∧ (setCycle s j r).priority = s.priority ∧
    (setCycle s j r).roster = s.roster ∧ (setCycle s j r).line = s.line ∧
    (setCycle s j r).centre = s.centre ∧ (setCycle s j r).handler = s.handler ∧
    (setCycle s j r).causeRaised = s.causeRaised ∧ (setCycle s j r).pending = s.pending := by
  simp [setCycle]

@[simp] theorem setRosterEntry_frame (j : Junction) (r : RosterEntry) (s : State) :
    (setRosterEntry s j r).inReset = s.inReset ∧ (setRosterEntry s j r).straps = s.straps ∧
    (setRosterEntry s j r).store = s.store ∧ (setRosterEntry s j r).retention = s.retention ∧
    (setRosterEntry s j r).retained = s.retained ∧ (setRosterEntry s j r).engine = s.engine ∧
    (setRosterEntry s j r).timebase = s.timebase ∧ (setRosterEntry s j r).cycles = s.cycles ∧
    (setRosterEntry s j r).due = s.due ∧ (setRosterEntry s j r).demand = s.demand ∧
    (setRosterEntry s j r).selector = s.selector ∧ (setRosterEntry s j r).gate = s.gate ∧
    (setRosterEntry s j r).priority = s.priority ∧ (setRosterEntry s j r).line = s.line ∧
    (setRosterEntry s j r).centre = s.centre ∧ (setRosterEntry s j r).handler = s.handler ∧
    (setRosterEntry s j r).causeRaised = s.causeRaised ∧
    (setRosterEntry s j r).pending = s.pending := by
  simp [setRosterEntry]

@[simp] theorem setJunctionDemand_frame (j : Junction) (d : JunctionDemand) (s : State) :
    (setJunctionDemand s j d).inReset = s.inReset ∧ (setJunctionDemand s j d).straps = s.straps ∧
    (setJunctionDemand s j d).store = s.store ∧
    (setJunctionDemand s j d).retention = s.retention ∧
    (setJunctionDemand s j d).retained = s.retained ∧
    (setJunctionDemand s j d).engine = s.engine ∧
    (setJunctionDemand s j d).timebase = s.timebase ∧
    (setJunctionDemand s j d).cycles = s.cycles ∧ (setJunctionDemand s j d).due = s.due ∧
    (setJunctionDemand s j d).selector = s.selector ∧ (setJunctionDemand s j d).gate = s.gate ∧
    (setJunctionDemand s j d).priority = s.priority ∧
    (setJunctionDemand s j d).roster = s.roster ∧ (setJunctionDemand s j d).line = s.line ∧
    (setJunctionDemand s j d).centre = s.centre ∧ (setJunctionDemand s j d).handler = s.handler ∧
    (setJunctionDemand s j d).causeRaised = s.causeRaised ∧
    (setJunctionDemand s j d).pending = s.pending := by
  simp [setJunctionDemand]

@[simp] theorem raiseCause_frame (s : State) :
    (raiseCause s).inReset = s.inReset ∧ (raiseCause s).straps = s.straps ∧
    (raiseCause s).store = s.store ∧ (raiseCause s).retention = s.retention ∧
    (raiseCause s).retained = s.retained ∧ (raiseCause s).engine = s.engine ∧
    (raiseCause s).timebase = s.timebase ∧ (raiseCause s).cycles = s.cycles ∧
    (raiseCause s).due = s.due ∧ (raiseCause s).demand = s.demand ∧
    (raiseCause s).selector = s.selector ∧ (raiseCause s).gate = s.gate ∧
    (raiseCause s).priority = s.priority ∧ (raiseCause s).roster = s.roster ∧
    (raiseCause s).line = s.line ∧ (raiseCause s).centre = s.centre ∧
    (raiseCause s).handler = s.handler ∧ (raiseCause s).pending = s.pending := by
  simp [raiseCause]

@[simp] theorem raiseCauseIf_frame (b : Bool) (s : State) :
    (raiseCauseIf b s).inReset = s.inReset ∧ (raiseCauseIf b s).straps = s.straps ∧
    (raiseCauseIf b s).store = s.store ∧ (raiseCauseIf b s).retention = s.retention ∧
    (raiseCauseIf b s).retained = s.retained ∧ (raiseCauseIf b s).engine = s.engine ∧
    (raiseCauseIf b s).timebase = s.timebase ∧ (raiseCauseIf b s).cycles = s.cycles ∧
    (raiseCauseIf b s).due = s.due ∧ (raiseCauseIf b s).demand = s.demand ∧
    (raiseCauseIf b s).selector = s.selector ∧ (raiseCauseIf b s).gate = s.gate ∧
    (raiseCauseIf b s).priority = s.priority ∧ (raiseCauseIf b s).roster = s.roster ∧
    (raiseCauseIf b s).line = s.line ∧ (raiseCauseIf b s).centre = s.centre ∧
    (raiseCauseIf b s).handler = s.handler ∧ (raiseCauseIf b s).pending = s.pending := by
  simp only [raiseCauseIf]; (repeat' split) <;> simp

@[simp] theorem startCentre_frame (s : State) :
    (startCentre s).inReset = s.inReset ∧ (startCentre s).straps = s.straps ∧
    (startCentre s).store = s.store ∧ (startCentre s).retention = s.retention ∧
    (startCentre s).retained = s.retained ∧ (startCentre s).engine = s.engine ∧
    (startCentre s).timebase = s.timebase ∧ (startCentre s).cycles = s.cycles ∧
    (startCentre s).due = s.due ∧ (startCentre s).demand = s.demand ∧
    (startCentre s).selector = s.selector ∧ (startCentre s).gate = s.gate ∧
    (startCentre s).priority = s.priority ∧ (startCentre s).roster = s.roster ∧
    (startCentre s).line = s.line ∧ (startCentre s).handler = s.handler ∧
    (startCentre s).causeRaised = s.causeRaised ∧ (startCentre s).pending = s.pending := by
  simp only [startCentre]; (repeat' split) <;> simp

@[simp] theorem queueNotice_frame (body : NoticeBody) (s : State) :
    (queueNotice body s).inReset = s.inReset ∧ (queueNotice body s).straps = s.straps ∧
    (queueNotice body s).store = s.store ∧ (queueNotice body s).retention = s.retention ∧
    (queueNotice body s).retained = s.retained ∧ (queueNotice body s).engine = s.engine ∧
    (queueNotice body s).timebase = s.timebase ∧ (queueNotice body s).cycles = s.cycles ∧
    (queueNotice body s).due = s.due ∧ (queueNotice body s).demand = s.demand ∧
    (queueNotice body s).selector = s.selector ∧ (queueNotice body s).gate = s.gate ∧
    (queueNotice body s).priority = s.priority ∧ (queueNotice body s).roster = s.roster ∧
    (queueNotice body s).line = s.line ∧ (queueNotice body s).handler = s.handler ∧
    (queueNotice body s).causeRaised = s.causeRaised ∧ (queueNotice body s).pending = s.pending := by
  simp [queueNotice]

@[simp] theorem launch_frame (s : State) (l : Line) (item : LineItem) (n : Nat) :
    (launch s l item n).inReset = s.inReset ∧ (launch s l item n).straps = s.straps ∧
    (launch s l item n).store = s.store ∧ (launch s l item n).retention = s.retention ∧
    (launch s l item n).retained = s.retained ∧ (launch s l item n).engine = s.engine ∧
    (launch s l item n).timebase = s.timebase ∧ (launch s l item n).cycles = s.cycles ∧
    (launch s l item n).due = s.due ∧ (launch s l item n).demand = s.demand ∧
    (launch s l item n).selector = s.selector ∧ (launch s l item n).gate = s.gate ∧
    (launch s l item n).priority = s.priority ∧ (launch s l item n).roster = s.roster ∧
    (launch s l item n).centre = s.centre ∧ (launch s l item n).handler = s.handler ∧
    (launch s l item n).causeRaised = s.causeRaised ∧ (launch s l item n).pending = s.pending := by
  simp [launch]

@[simp] theorem queueBeat_frame (s : State) :
    (queueBeat s).inReset = s.inReset ∧ (queueBeat s).straps = s.straps ∧
    (queueBeat s).store = s.store ∧ (queueBeat s).retention = s.retention ∧
    (queueBeat s).retained = s.retained ∧ (queueBeat s).engine = s.engine ∧
    (queueBeat s).cycles = s.cycles ∧ (queueBeat s).due = s.due ∧
    (queueBeat s).demand = s.demand ∧ (queueBeat s).selector = s.selector ∧
    (queueBeat s).gate = s.gate ∧ (queueBeat s).priority = s.priority ∧
    (queueBeat s).roster = s.roster ∧ (queueBeat s).centre = s.centre ∧
    (queueBeat s).handler = s.handler ∧ (queueBeat s).causeRaised = s.causeRaised ∧
    (queueBeat s).pending = s.pending := by
  simp [queueBeat]

@[simp] theorem queueSteer_frame (j : Junction) (a : PriorityAction) (n : Nat) (s : State) :
    (queueSteer j a n s).inReset = s.inReset ∧ (queueSteer j a n s).straps = s.straps ∧
    (queueSteer j a n s).store = s.store ∧ (queueSteer j a n s).retention = s.retention ∧
    (queueSteer j a n s).retained = s.retained ∧ (queueSteer j a n s).engine = s.engine ∧
    (queueSteer j a n s).timebase = s.timebase ∧ (queueSteer j a n s).cycles = s.cycles ∧
    (queueSteer j a n s).due = s.due ∧ (queueSteer j a n s).demand = s.demand ∧
    (queueSteer j a n s).selector = s.selector ∧ (queueSteer j a n s).gate = s.gate ∧
    (queueSteer j a n s).priority = s.priority ∧ (queueSteer j a n s).roster = s.roster ∧
    (queueSteer j a n s).centre = s.centre ∧ (queueSteer j a n s).handler = s.handler ∧
    (queueSteer j a n s).causeRaised = s.causeRaised ∧ (queueSteer j a n s).pending = s.pending := by
  simp [queueSteer]

@[simp] theorem queueLineReply_frame (item : ReplyItem) (s : State) :
    (queueLineReply item s).inReset = s.inReset ∧ (queueLineReply item s).straps = s.straps ∧
    (queueLineReply item s).store = s.store ∧ (queueLineReply item s).retention = s.retention ∧
    (queueLineReply item s).retained = s.retained ∧ (queueLineReply item s).engine = s.engine ∧
    (queueLineReply item s).timebase = s.timebase ∧ (queueLineReply item s).cycles = s.cycles ∧
    (queueLineReply item s).due = s.due ∧ (queueLineReply item s).demand = s.demand ∧
    (queueLineReply item s).selector = s.selector ∧ (queueLineReply item s).gate = s.gate ∧
    (queueLineReply item s).priority = s.priority ∧ (queueLineReply item s).roster = s.roster ∧
    (queueLineReply item s).centre = s.centre ∧ (queueLineReply item s).handler = s.handler ∧
    (queueLineReply item s).causeRaised = s.causeRaised ∧
    (queueLineReply item s).pending = s.pending := by
  simp [queueLineReply]

@[simp] theorem emptySteers_frame (s : State) :
    (emptySteers s).inReset = s.inReset ∧ (emptySteers s).straps = s.straps ∧
    (emptySteers s).store = s.store ∧ (emptySteers s).retention = s.retention ∧
    (emptySteers s).retained = s.retained ∧ (emptySteers s).engine = s.engine ∧
    (emptySteers s).timebase = s.timebase ∧ (emptySteers s).cycles = s.cycles ∧
    (emptySteers s).due = s.due ∧ (emptySteers s).demand = s.demand ∧
    (emptySteers s).selector = s.selector ∧ (emptySteers s).gate = s.gate ∧
    (emptySteers s).priority = s.priority ∧ (emptySteers s).roster = s.roster ∧
    (emptySteers s).centre = s.centre ∧ (emptySteers s).handler = s.handler ∧
    (emptySteers s).causeRaised = s.causeRaised ∧ (emptySteers s).pending = s.pending := by
  simp [emptySteers]

@[simp] theorem emptyBeat_frame (s : State) :
    (emptyBeat s).inReset = s.inReset ∧ (emptyBeat s).straps = s.straps ∧
    (emptyBeat s).store = s.store ∧ (emptyBeat s).retention = s.retention ∧
    (emptyBeat s).retained = s.retained ∧ (emptyBeat s).engine = s.engine ∧
    (emptyBeat s).timebase = s.timebase ∧ (emptyBeat s).cycles = s.cycles ∧
    (emptyBeat s).due = s.due ∧ (emptyBeat s).demand = s.demand ∧
    (emptyBeat s).selector = s.selector ∧ (emptyBeat s).gate = s.gate ∧
    (emptyBeat s).priority = s.priority ∧ (emptyBeat s).roster = s.roster ∧
    (emptyBeat s).centre = s.centre ∧ (emptyBeat s).handler = s.handler ∧
    (emptyBeat s).causeRaised = s.causeRaised ∧ (emptyBeat s).pending = s.pending := by
  simp [emptyBeat]

@[simp] theorem queueReply_frame (p : Port) (f : Frame) (c : ReplyCode) (r : List Byte) (s : State) :
    (queueReply p f c r s).inReset = s.inReset ∧ (queueReply p f c r s).straps = s.straps ∧
    (queueReply p f c r s).store = s.store ∧ (queueReply p f c r s).retention = s.retention ∧
    (queueReply p f c r s).retained = s.retained ∧ (queueReply p f c r s).engine = s.engine ∧
    (queueReply p f c r s).timebase = s.timebase ∧ (queueReply p f c r s).cycles = s.cycles ∧
    (queueReply p f c r s).due = s.due ∧ (queueReply p f c r s).demand = s.demand ∧
    (queueReply p f c r s).selector = s.selector ∧ (queueReply p f c r s).gate = s.gate ∧
    (queueReply p f c r s).priority = s.priority ∧ (queueReply p f c r s).roster = s.roster ∧
    (queueReply p f c r s).handler = s.handler ∧
    (queueReply p f c r s).causeRaised = s.causeRaised ∧
    (queueReply p f c r s).pending = s.pending := by
  cases p <;> simp [queueReply]

@[simp] theorem startComputation_frame (s : State) :
    (startComputation s).inReset = s.inReset ∧ (startComputation s).straps = s.straps ∧
    (startComputation s).store = s.store ∧ (startComputation s).retention = s.retention ∧
    (startComputation s).retained = s.retained ∧ (startComputation s).timebase = s.timebase ∧
    (startComputation s).cycles = s.cycles ∧ (startComputation s).due = s.due ∧
    (startComputation s).demand = s.demand ∧ (startComputation s).selector = s.selector ∧
    (startComputation s).gate = s.gate ∧ (startComputation s).priority = s.priority ∧
    (startComputation s).roster = s.roster ∧ (startComputation s).line = s.line ∧
    (startComputation s).centre = s.centre ∧ (startComputation s).handler = s.handler ∧
    (startComputation s).causeRaised = s.causeRaised ∧ (startComputation s).pending = s.pending := by
  simp only [startComputation]; (repeat' split) <;> simp

@[simp] theorem arriveCause_frame (s : State) :
    (arriveCause s).inReset = s.inReset ∧ (arriveCause s).straps = s.straps ∧
    (arriveCause s).store = s.store ∧ (arriveCause s).retention = s.retention ∧
    (arriveCause s).retained = s.retained ∧ (arriveCause s).timebase = s.timebase ∧
    (arriveCause s).cycles = s.cycles ∧ (arriveCause s).due = s.due ∧
    (arriveCause s).demand = s.demand ∧ (arriveCause s).selector = s.selector ∧
    (arriveCause s).gate = s.gate ∧ (arriveCause s).priority = s.priority ∧
    (arriveCause s).roster = s.roster ∧ (arriveCause s).line = s.line ∧
    (arriveCause s).centre = s.centre ∧ (arriveCause s).handler = s.handler ∧
    (arriveCause s).causeRaised = s.causeRaised ∧ (arriveCause s).pending = s.pending := by
  simp only [arriveCause]; (repeat' split) <;> simp

@[simp] theorem settle_frame (s : State) :
    (settle s).inReset = s.inReset ∧ (settle s).straps = s.straps ∧ (settle s).store = s.store ∧
    (settle s).retention = s.retention ∧ (settle s).retained = s.retained ∧
    (settle s).timebase = s.timebase ∧ (settle s).cycles = s.cycles ∧ (settle s).due = s.due ∧
    (settle s).demand = s.demand ∧ (settle s).selector = s.selector ∧ (settle s).gate = s.gate ∧
    (settle s).priority = s.priority ∧ (settle s).roster = s.roster ∧ (settle s).line = s.line ∧
    (settle s).centre = s.centre ∧ (settle s).handler = s.handler ∧
    (settle s).pending = s.pending := by
  simp only [settle]; (repeat' split) <;> simp

@[simp] theorem setPendingPlan_frame (p : Nat) (s : State) :
    (setPendingPlan p s).inReset = s.inReset ∧ (setPendingPlan p s).straps = s.straps ∧
    (setPendingPlan p s).store = s.store ∧ (setPendingPlan p s).retention = s.retention ∧
    (setPendingPlan p s).retained = s.retained ∧ (setPendingPlan p s).cycles = s.cycles ∧
    (setPendingPlan p s).due = s.due ∧ (setPendingPlan p s).demand = s.demand ∧
    (setPendingPlan p s).selector = s.selector ∧ (setPendingPlan p s).gate = s.gate ∧
    (setPendingPlan p s).priority = s.priority ∧ (setPendingPlan p s).roster = s.roster ∧
    (setPendingPlan p s).line = s.line ∧ (setPendingPlan p s).centre = s.centre ∧
    (setPendingPlan p s).handler = s.handler ∧ (setPendingPlan p s).pending = s.pending := by
  simp [setPendingPlan]

@[simp] theorem engineToHold_frame (s : State) :
    (engineToHold s).inReset = s.inReset ∧ (engineToHold s).straps = s.straps ∧
    (engineToHold s).store = s.store ∧ (engineToHold s).retention = s.retention ∧
    (engineToHold s).retained = s.retained ∧ (engineToHold s).timebase = s.timebase ∧
    (engineToHold s).cycles = s.cycles ∧ (engineToHold s).due = s.due ∧
    (engineToHold s).demand = s.demand ∧ (engineToHold s).selector = s.selector ∧
    (engineToHold s).gate = s.gate ∧ (engineToHold s).priority = s.priority ∧
    (engineToHold s).roster = s.roster ∧ (engineToHold s).line = s.line ∧
    (engineToHold s).centre = s.centre ∧ (engineToHold s).handler = s.handler ∧
    (engineToHold s).causeRaised = s.causeRaised ∧ (engineToHold s).pending = s.pending := by
  simp [engineToHold]

@[simp] theorem sendOutcome_frame (e : PriorityEntry) (o : CallOutcome) (s : State) :
    (sendOutcome e o s).inReset = s.inReset ∧ (sendOutcome e o s).straps = s.straps ∧
    (sendOutcome e o s).store = s.store ∧ (sendOutcome e o s).retention = s.retention ∧
    (sendOutcome e o s).retained = s.retained ∧ (sendOutcome e o s).engine = s.engine ∧
    (sendOutcome e o s).timebase = s.timebase ∧ (sendOutcome e o s).cycles = s.cycles ∧
    (sendOutcome e o s).due = s.due ∧ (sendOutcome e o s).demand = s.demand ∧
    (sendOutcome e o s).selector = s.selector ∧ (sendOutcome e o s).gate = s.gate ∧
    (sendOutcome e o s).priority = s.priority ∧ (sendOutcome e o s).roster = s.roster ∧
    (sendOutcome e o s).centre = s.centre ∧ (sendOutcome e o s).handler = s.handler ∧
    (sendOutcome e o s).causeRaised = s.causeRaised ∧ (sendOutcome e o s).pending = s.pending := by
  simp only [sendOutcome]; (repeat' split) <;> simp

@[simp] theorem removeEntry_frame (e : PriorityEntry) (o : CallOutcome) (s : State) :
    (removeEntry e o s).inReset = s.inReset ∧ (removeEntry e o s).straps = s.straps ∧
    (removeEntry e o s).store = s.store ∧ (removeEntry e o s).retention = s.retention ∧
    (removeEntry e o s).retained = s.retained ∧ (removeEntry e o s).engine = s.engine ∧
    (removeEntry e o s).timebase = s.timebase ∧ (removeEntry e o s).cycles = s.cycles ∧
    (removeEntry e o s).due = s.due ∧ (removeEntry e o s).demand = s.demand ∧
    (removeEntry e o s).selector = s.selector ∧ (removeEntry e o s).gate = s.gate ∧
    (removeEntry e o s).roster = s.roster ∧ (removeEntry e o s).handler = s.handler ∧
    (removeEntry e o s).causeRaised = s.causeRaised ∧ (removeEntry e o s).pending = s.pending := by
  simp [removeEntry]

@[simp] theorem removeAll_frame (o : CallOutcome) (es : List PriorityEntry) (s : State) :
    (removeAll o es s).inReset = s.inReset ∧ (removeAll o es s).straps = s.straps ∧
    (removeAll o es s).store = s.store ∧ (removeAll o es s).retention = s.retention ∧
    (removeAll o es s).retained = s.retained ∧ (removeAll o es s).engine = s.engine ∧
    (removeAll o es s).timebase = s.timebase ∧ (removeAll o es s).cycles = s.cycles ∧
    (removeAll o es s).due = s.due ∧ (removeAll o es s).demand = s.demand ∧
    (removeAll o es s).selector = s.selector ∧ (removeAll o es s).gate = s.gate ∧
    (removeAll o es s).roster = s.roster ∧ (removeAll o es s).handler = s.handler ∧
    (removeAll o es s).causeRaised = s.causeRaised ∧ (removeAll o es s).pending = s.pending := by
  induction es generalizing s with
  | nil => simp [removeAll]
  | cons e es ih => simp [removeAll, ih]

@[simp] theorem dropEntries_frame (picks : PriorityEntry → Bool) (r : DropReason) (s : State) :
    (dropEntries picks r s).inReset = s.inReset ∧ (dropEntries picks r s).straps = s.straps ∧
    (dropEntries picks r s).store = s.store ∧ (dropEntries picks r s).retention = s.retention ∧
    (dropEntries picks r s).retained = s.retained ∧ (dropEntries picks r s).engine = s.engine ∧
    (dropEntries picks r s).timebase = s.timebase ∧ (dropEntries picks r s).cycles = s.cycles ∧
    (dropEntries picks r s).due = s.due ∧ (dropEntries picks r s).demand = s.demand ∧
    (dropEntries picks r s).selector = s.selector ∧ (dropEntries picks r s).gate = s.gate ∧
    (dropEntries picks r s).roster = s.roster ∧ (dropEntries picks r s).handler = s.handler ∧
    (dropEntries picks r s).causeRaised = s.causeRaised ∧
    (dropEntries picks r s).pending = s.pending := by
  simp [dropEntries]

@[simp] theorem serveEntries_frame (j : Junction) (es : List PriorityEntry) (s : State) :
    (serveEntries j es s).inReset = s.inReset ∧ (serveEntries j es s).straps = s.straps ∧
    (serveEntries j es s).store = s.store ∧ (serveEntries j es s).retention = s.retention ∧
    (serveEntries j es s).retained = s.retained ∧ (serveEntries j es s).engine = s.engine ∧
    (serveEntries j es s).timebase = s.timebase ∧ (serveEntries j es s).due = s.due ∧
    (serveEntries j es s).demand = s.demand ∧ (serveEntries j es s).selector = s.selector ∧
    (serveEntries j es s).gate = s.gate ∧ (serveEntries j es s).roster = s.roster ∧
    (serveEntries j es s).handler = s.handler ∧
    (serveEntries j es s).causeRaised = s.causeRaised ∧ (serveEntries j es s).pending = s.pending := by
  induction es generalizing s with
  | nil => simp [serveEntries]
  | cons e es ih => simp only [serveEntries]; (repeat' split) <;> simp [ih]

@[simp] theorem evaluate_frame (j : Junction) (s : State) :
    (evaluate j s).inReset = s.inReset ∧ (evaluate j s).straps = s.straps ∧
    (evaluate j s).store = s.store ∧ (evaluate j s).retention = s.retention ∧
    (evaluate j s).retained = s.retained ∧ (evaluate j s).engine = s.engine ∧
    (evaluate j s).timebase = s.timebase ∧ (evaluate j s).due = s.due ∧
    (evaluate j s).demand = s.demand ∧ (evaluate j s).selector = s.selector ∧
    (evaluate j s).gate = s.gate ∧ (evaluate j s).roster = s.roster ∧
    (evaluate j s).handler = s.handler ∧ (evaluate j s).causeRaised = s.causeRaised ∧
    (evaluate j s).pending = s.pending := by
  simp only [evaluate]; (repeat' split) <;> simp

@[simp] theorem closeWindow_frame (j : Junction) (s : State) :
    (closeWindow j s).inReset = s.inReset ∧ (closeWindow j s).straps = s.straps ∧
    (closeWindow j s).store = s.store ∧ (closeWindow j s).retention = s.retention ∧
    (closeWindow j s).retained = s.retained ∧ (closeWindow j s).engine = s.engine ∧
    (closeWindow j s).timebase = s.timebase ∧ (closeWindow j s).due = s.due ∧
    (closeWindow j s).demand = s.demand ∧ (closeWindow j s).selector = s.selector ∧
    (closeWindow j s).gate = s.gate ∧ (closeWindow j s).roster = s.roster ∧
    (closeWindow j s).handler = s.handler ∧ (closeWindow j s).causeRaised = s.causeRaised ∧
    (closeWindow j s).pending = s.pending := by
  simp [closeWindow]

@[simp] theorem cutExtension_frame (j : Junction) (e : Extension) (s : State) :
    (cutExtension j e s).inReset = s.inReset ∧ (cutExtension j e s).straps = s.straps ∧
    (cutExtension j e s).store = s.store ∧ (cutExtension j e s).retention = s.retention ∧
    (cutExtension j e s).retained = s.retained ∧ (cutExtension j e s).engine = s.engine ∧
    (cutExtension j e s).timebase = s.timebase ∧ (cutExtension j e s).due = s.due ∧
    (cutExtension j e s).demand = s.demand ∧ (cutExtension j e s).selector = s.selector ∧
    (cutExtension j e s).gate = s.gate ∧ (cutExtension j e s).roster = s.roster ∧
    (cutExtension j e s).handler = s.handler ∧ (cutExtension j e s).causeRaised = s.causeRaised ∧
    (cutExtension j e s).pending = s.pending := by
  simp only [cutExtension]; (repeat' split) <;> simp

@[simp] theorem setLevel_frame (d : Direction) (k : LinkIndex) (v : Nat) (s : State) :
    (setLevel d k v s).inReset = s.inReset ∧ (setLevel d k v s).straps = s.straps ∧
    (setLevel d k v s).store = s.store ∧ (setLevel d k v s).retention = s.retention ∧
    (setLevel d k v s).retained = s.retained ∧ (setLevel d k v s).engine = s.engine ∧
    (setLevel d k v s).timebase = s.timebase ∧ (setLevel d k v s).cycles = s.cycles ∧
    (setLevel d k v s).due = s.due ∧ (setLevel d k v s).selector = s.selector ∧
    (setLevel d k v s).gate = s.gate ∧ (setLevel d k v s).priority = s.priority ∧
    (setLevel d k v s).roster = s.roster ∧ (setLevel d k v s).line = s.line ∧
    (setLevel d k v s).centre = s.centre ∧ (setLevel d k v s).handler = s.handler ∧
    (setLevel d k v s).pending = s.pending := by
  cases d <;> simp [setLevel]

@[simp] theorem stepLevel_frame (d : Direction) (k : Option LinkIndex) (v : Nat) (s : State) :
    (stepLevel d k v s).inReset = s.inReset ∧ (stepLevel d k v s).straps = s.straps ∧
    (stepLevel d k v s).store = s.store ∧ (stepLevel d k v s).retention = s.retention ∧
    (stepLevel d k v s).retained = s.retained ∧ (stepLevel d k v s).engine = s.engine ∧
    (stepLevel d k v s).timebase = s.timebase ∧ (stepLevel d k v s).cycles = s.cycles ∧
    (stepLevel d k v s).due = s.due ∧ (stepLevel d k v s).selector = s.selector ∧
    (stepLevel d k v s).gate = s.gate ∧ (stepLevel d k v s).priority = s.priority ∧
    (stepLevel d k v s).roster = s.roster ∧ (stepLevel d k v s).line = s.line ∧
    (stepLevel d k v s).centre = s.centre ∧ (stepLevel d k v s).handler = s.handler ∧
    (stepLevel d k v s).pending = s.pending := by
  cases k <;> simp [stepLevel]

@[simp] theorem demandReport_frame (j : Junction) (p : RosterState) (b : ReportBody) (s : State) :
    (demandReport j p b s).inReset = s.inReset ∧ (demandReport j p b s).straps = s.straps ∧
    (demandReport j p b s).store = s.store ∧ (demandReport j p b s).retention = s.retention ∧
    (demandReport j p b s).retained = s.retained ∧ (demandReport j p b s).engine = s.engine ∧
    (demandReport j p b s).timebase = s.timebase ∧ (demandReport j p b s).cycles = s.cycles ∧
    (demandReport j p b s).due = s.due ∧ (demandReport j p b s).selector = s.selector ∧
    (demandReport j p b s).gate = s.gate ∧ (demandReport j p b s).priority = s.priority ∧
    (demandReport j p b s).roster = s.roster ∧ (demandReport j p b s).line = s.line ∧
    (demandReport j p b s).centre = s.centre ∧ (demandReport j p b s).handler = s.handler ∧
    (demandReport j p b s).pending = s.pending := by
  simp [demandReport]

@[simp] theorem clearLevel_frame (d : Direction) (k : Option LinkIndex) (s : State) :
    (clearLevel d k s).inReset = s.inReset ∧ (clearLevel d k s).straps = s.straps ∧
    (clearLevel d k s).store = s.store ∧ (clearLevel d k s).retention = s.retention ∧
    (clearLevel d k s).retained = s.retained ∧ (clearLevel d k s).engine = s.engine ∧
    (clearLevel d k s).timebase = s.timebase ∧ (clearLevel d k s).cycles = s.cycles ∧
    (clearLevel d k s).due = s.due ∧ (clearLevel d k s).selector = s.selector ∧
    (clearLevel d k s).gate = s.gate ∧ (clearLevel d k s).priority = s.priority ∧
    (clearLevel d k s).roster = s.roster ∧ (clearLevel d k s).line = s.line ∧
    (clearLevel d k s).centre = s.centre ∧ (clearLevel d k s).handler = s.handler ∧
    (clearLevel d k s).pending = s.pending := by
  cases k <;> simp [clearLevel]

@[simp] theorem demandLost_frame (j : Junction) (s : State) :
    (demandLost j s).inReset = s.inReset ∧ (demandLost j s).straps = s.straps ∧
    (demandLost j s).store = s.store ∧ (demandLost j s).retention = s.retention ∧
    (demandLost j s).retained = s.retained ∧ (demandLost j s).engine = s.engine ∧
    (demandLost j s).timebase = s.timebase ∧ (demandLost j s).cycles = s.cycles ∧
    (demandLost j s).due = s.due ∧ (demandLost j s).selector = s.selector ∧
    (demandLost j s).gate = s.gate ∧ (demandLost j s).priority = s.priority ∧
    (demandLost j s).roster = s.roster ∧ (demandLost j s).line = s.line ∧
    (demandLost j s).centre = s.centre ∧ (demandLost j s).handler = s.handler ∧
    (demandLost j s).pending = s.pending := by
  simp [demandLost]

@[simp] theorem writeSpill_frame (d : Direction) (k : LinkIndex) (v : Spill) (s : State) :
    (writeSpill d k v s).inReset = s.inReset ∧ (writeSpill d k v s).straps = s.straps ∧
    (writeSpill d k v s).store = s.store ∧ (writeSpill d k v s).retention = s.retention ∧
    (writeSpill d k v s).retained = s.retained ∧ (writeSpill d k v s).engine = s.engine ∧
    (writeSpill d k v s).timebase = s.timebase ∧ (writeSpill d k v s).cycles = s.cycles ∧
    (writeSpill d k v s).due = s.due ∧ (writeSpill d k v s).demand = s.demand ∧
    (writeSpill d k v s).selector = s.selector ∧ (writeSpill d k v s).priority = s.priority ∧
    (writeSpill d k v s).roster = s.roster ∧ (writeSpill d k v s).line = s.line ∧
    (writeSpill d k v s).centre = s.centre ∧ (writeSpill d k v s).handler = s.handler ∧
    (writeSpill d k v s).causeRaised = s.causeRaised ∧ (writeSpill d k v s).pending = s.pending := by
  cases d <;> simp [writeSpill]

@[simp] theorem setSpill_frame (d : Direction) (k : LinkIndex) (v : Spill) (j : Nat) (r : SpillReason) (s : State) :
    (setSpill d k v j r s).inReset = s.inReset ∧ (setSpill d k v j r s).straps = s.straps ∧
    (setSpill d k v j r s).store = s.store ∧ (setSpill d k v j r s).retention = s.retention ∧
    (setSpill d k v j r s).retained = s.retained ∧ (setSpill d k v j r s).engine = s.engine ∧
    (setSpill d k v j r s).timebase = s.timebase ∧ (setSpill d k v j r s).cycles = s.cycles ∧
    (setSpill d k v j r s).due = s.due ∧ (setSpill d k v j r s).demand = s.demand ∧
    (setSpill d k v j r s).selector = s.selector ∧ (setSpill d k v j r s).priority = s.priority ∧
    (setSpill d k v j r s).roster = s.roster ∧ (setSpill d k v j r s).line = s.line ∧
    (setSpill d k v j r s).handler = s.handler ∧ (setSpill d k v j r s).pending = s.pending := by
  simp only [setSpill]; (repeat' split) <;> simp

@[simp] theorem stepSpill_frame (d : Direction) (k : Option LinkIndex) (b : Bool) (j : Junction) (s : State) :
    (stepSpill d k b j s).inReset = s.inReset ∧ (stepSpill d k b j s).straps = s.straps ∧
    (stepSpill d k b j s).store = s.store ∧ (stepSpill d k b j s).retention = s.retention ∧
    (stepSpill d k b j s).retained = s.retained ∧ (stepSpill d k b j s).engine = s.engine ∧
    (stepSpill d k b j s).timebase = s.timebase ∧ (stepSpill d k b j s).cycles = s.cycles ∧
    (stepSpill d k b j s).due = s.due ∧ (stepSpill d k b j s).demand = s.demand ∧
    (stepSpill d k b j s).selector = s.selector ∧ (stepSpill d k b j s).priority = s.priority ∧
    (stepSpill d k b j s).roster = s.roster ∧ (stepSpill d k b j s).line = s.line ∧
    (stepSpill d k b j s).handler = s.handler ∧ (stepSpill d k b j s).pending = s.pending := by
  cases k <;> simp [stepSpill]

@[simp] theorem gateReport_frame (j : Junction) (b : ReportBody) (s : State) :
    (gateReport j b s).inReset = s.inReset ∧ (gateReport j b s).straps = s.straps ∧
    (gateReport j b s).store = s.store ∧ (gateReport j b s).retention = s.retention ∧
    (gateReport j b s).retained = s.retained ∧ (gateReport j b s).engine = s.engine ∧
    (gateReport j b s).timebase = s.timebase ∧ (gateReport j b s).cycles = s.cycles ∧
    (gateReport j b s).due = s.due ∧ (gateReport j b s).demand = s.demand ∧
    (gateReport j b s).selector = s.selector ∧ (gateReport j b s).priority = s.priority ∧
    (gateReport j b s).roster = s.roster ∧ (gateReport j b s).line = s.line ∧
    (gateReport j b s).handler = s.handler ∧ (gateReport j b s).pending = s.pending := by
  simp [gateReport]

@[simp] theorem clearSpill_frame (d : Direction) (k : Option LinkIndex) (j : Nat) (r : SpillReason) (s : State) :
    (clearSpill d k j r s).inReset = s.inReset ∧ (clearSpill d k j r s).straps = s.straps ∧
    (clearSpill d k j r s).store = s.store ∧ (clearSpill d k j r s).retention = s.retention ∧
    (clearSpill d k j r s).retained = s.retained ∧ (clearSpill d k j r s).engine = s.engine ∧
    (clearSpill d k j r s).timebase = s.timebase ∧ (clearSpill d k j r s).cycles = s.cycles ∧
    (clearSpill d k j r s).due = s.due ∧ (clearSpill d k j r s).demand = s.demand ∧
    (clearSpill d k j r s).selector = s.selector ∧ (clearSpill d k j r s).priority = s.priority ∧
    (clearSpill d k j r s).roster = s.roster ∧ (clearSpill d k j r s).line = s.line ∧
    (clearSpill d k j r s).handler = s.handler ∧ (clearSpill d k j r s).pending = s.pending := by
  cases k <;> simp [clearSpill]

@[simp] theorem gateLost_frame (j : Junction) (s : State) :
    (gateLost j s).inReset = s.inReset ∧ (gateLost j s).straps = s.straps ∧
    (gateLost j s).store = s.store ∧ (gateLost j s).retention = s.retention ∧
    (gateLost j s).retained = s.retained ∧ (gateLost j s).engine = s.engine ∧
    (gateLost j s).timebase = s.timebase ∧ (gateLost j s).cycles = s.cycles ∧
    (gateLost j s).due = s.due ∧ (gateLost j s).demand = s.demand ∧
    (gateLost j s).selector = s.selector ∧ (gateLost j s).priority = s.priority ∧
    (gateLost j s).roster = s.roster ∧ (gateLost j s).line = s.line ∧
    (gateLost j s).handler = s.handler ∧ (gateLost j s).pending = s.pending := by
  simp [gateLost]

@[simp] theorem junctionNotice_frame (j : Junction) (b a : RosterState) (m : Nat) (s : State) :
    (junctionNotice j b a m s).inReset = s.inReset ∧
    (junctionNotice j b a m s).straps = s.straps ∧ (junctionNotice j b a m s).store = s.store ∧
    (junctionNotice j b a m s).retention = s.retention ∧
    (junctionNotice j b a m s).retained = s.retained ∧
    (junctionNotice j b a m s).engine = s.engine ∧
    (junctionNotice j b a m s).timebase = s.timebase ∧
    (junctionNotice j b a m s).cycles = s.cycles ∧ (junctionNotice j b a m s).due = s.due ∧
    (junctionNotice j b a m s).demand = s.demand ∧
    (junctionNotice j b a m s).selector = s.selector ∧ (junctionNotice j b a m s).gate = s.gate ∧
    (junctionNotice j b a m s).priority = s.priority ∧
    (junctionNotice j b a m s).roster = s.roster ∧ (junctionNotice j b a m s).line = s.line ∧
    (junctionNotice j b a m s).handler = s.handler ∧
    (junctionNotice j b a m s).causeRaised = s.causeRaised ∧
    (junctionNotice j b a m s).pending = s.pending := by
  simp [junctionNotice]

@[simp] theorem acceptReport_frame (j : Junction) (b : ReportBody) (s : State) :
    (acceptReport j b s).inReset = s.inReset ∧ (acceptReport j b s).straps = s.straps ∧
    (acceptReport j b s).store = s.store ∧ (acceptReport j b s).retention = s.retention ∧
    (acceptReport j b s).retained = s.retained ∧ (acceptReport j b s).engine = s.engine ∧
    (acceptReport j b s).timebase = s.timebase ∧ (acceptReport j b s).cycles = s.cycles ∧
    (acceptReport j b s).due = s.due ∧ (acceptReport j b s).selector = s.selector ∧
    (acceptReport j b s).handler = s.handler ∧ (acceptReport j b s).pending = s.pending := by
  simp only [acceptReport]; (repeat' split) <;> simp

@[simp] theorem enterLost_frame (j : Junction) (b : RosterState) (m : Nat) (s : State) :
    (enterLost j b m s).inReset = s.inReset ∧ (enterLost j b m s).straps = s.straps ∧
    (enterLost j b m s).store = s.store ∧ (enterLost j b m s).retention = s.retention ∧
    (enterLost j b m s).retained = s.retained ∧ (enterLost j b m s).engine = s.engine ∧
    (enterLost j b m s).timebase = s.timebase ∧ (enterLost j b m s).cycles = s.cycles ∧
    (enterLost j b m s).due = s.due ∧ (enterLost j b m s).selector = s.selector ∧
    (enterLost j b m s).roster = s.roster ∧ (enterLost j b m s).handler = s.handler ∧
    (enterLost j b m s).pending = s.pending := by
  simp [enterLost]

@[simp] theorem periodEndFor_frame (j : Junction) (s : State) :
    (periodEndFor j s).inReset = s.inReset ∧ (periodEndFor j s).straps = s.straps ∧
    (periodEndFor j s).store = s.store ∧ (periodEndFor j s).retention = s.retention ∧
    (periodEndFor j s).retained = s.retained ∧ (periodEndFor j s).engine = s.engine ∧
    (periodEndFor j s).timebase = s.timebase ∧ (periodEndFor j s).cycles = s.cycles ∧
    (periodEndFor j s).due = s.due ∧ (periodEndFor j s).selector = s.selector ∧
    (periodEndFor j s).handler = s.handler ∧ (periodEndFor j s).pending = s.pending := by
  simp only [periodEndFor]; (repeat' split) <;> simp

@[simp] theorem gateForN_frame (n : Nat) (ks : List LinkIndex) (s : State) :
    (gateForN n ks s).inReset = s.inReset ∧ (gateForN n ks s).straps = s.straps ∧
    (gateForN n ks s).store = s.store ∧ (gateForN n ks s).retention = s.retention ∧
    (gateForN n ks s).retained = s.retained ∧ (gateForN n ks s).engine = s.engine ∧
    (gateForN n ks s).timebase = s.timebase ∧ (gateForN n ks s).cycles = s.cycles ∧
    (gateForN n ks s).due = s.due ∧ (gateForN n ks s).demand = s.demand ∧
    (gateForN n ks s).selector = s.selector ∧ (gateForN n ks s).priority = s.priority ∧
    (gateForN n ks s).roster = s.roster ∧ (gateForN n ks s).line = s.line ∧
    (gateForN n ks s).handler = s.handler ∧ (gateForN n ks s).pending = s.pending := by
  induction ks generalizing s with
  | nil => simp [gateForN]
  | cons e es ih => simp only [gateForN]; (repeat' split) <;> simp [ih]

@[simp] theorem changeN_frame (n : Nat) (s : State) :
    (changeN n s).inReset = s.inReset ∧ (changeN n s).straps = s.straps ∧
    (changeN n s).store = s.store ∧ (changeN n s).retention = s.retention ∧
    (changeN n s).retained = s.retained ∧ (changeN n s).engine = s.engine ∧
    (changeN n s).timebase = s.timebase ∧ (changeN n s).cycles = s.cycles ∧
    (changeN n s).due = s.due ∧ (changeN n s).selector = s.selector ∧
    (changeN n s).priority = s.priority ∧ (changeN n s).line = s.line ∧
    (changeN n s).handler = s.handler ∧ (changeN n s).pending = s.pending := by
  simp only [changeN]; (repeat' split) <;> simp

@[simp] theorem enterEntering_frame (p : Nat) (s : State) :
    (enterEntering p s).inReset = s.inReset ∧ (enterEntering p s).straps = s.straps ∧
    (enterEntering p s).store = s.store ∧ (enterEntering p s).retention = s.retention ∧
    (enterEntering p s).retained = s.retained ∧ (enterEntering p s).engine = s.engine ∧
    (enterEntering p s).cycles = s.cycles ∧ (enterEntering p s).due = s.due ∧
    (enterEntering p s).demand = s.demand ∧ (enterEntering p s).gate = s.gate ∧
    (enterEntering p s).priority = s.priority ∧ (enterEntering p s).roster = s.roster ∧
    (enterEntering p s).line = s.line ∧ (enterEntering p s).handler = s.handler ∧
    (enterEntering p s).pending = s.pending := by
  simp [enterEntering]

@[simp] theorem stopCoordination_frame (r : DropReason) (s : State) :
    (stopCoordination r s).inReset = s.inReset ∧ (stopCoordination r s).straps = s.straps ∧
    (stopCoordination r s).store = s.store ∧ (stopCoordination r s).retention = s.retention ∧
    (stopCoordination r s).retained = s.retained ∧ (stopCoordination r s).demand = s.demand ∧
    (stopCoordination r s).gate = s.gate ∧ (stopCoordination r s).roster = s.roster ∧
    (stopCoordination r s).handler = s.handler ∧
    (stopCoordination r s).causeRaised = s.causeRaised ∧
    (stopCoordination r s).pending = s.pending := by
  simp [stopCoordination]

@[simp] theorem holdEffects_frame (s : State) :
    (holdEffects s).inReset = s.inReset ∧ (holdEffects s).straps = s.straps ∧
    (holdEffects s).store = s.store ∧ (holdEffects s).retention = s.retention ∧
    (holdEffects s).retained = s.retained ∧ (holdEffects s).demand = s.demand ∧
    (holdEffects s).gate = s.gate ∧ (holdEffects s).roster = s.roster ∧
    (holdEffects s).handler = s.handler ∧ (holdEffects s).causeRaised = s.causeRaised ∧
    (holdEffects s).pending = s.pending := by
  simp [holdEffects]

@[simp] theorem resetCoordination_frame (s : State) :
    (resetCoordination s).inReset = s.inReset ∧ (resetCoordination s).straps = s.straps ∧
    (resetCoordination s).store = s.store ∧ (resetCoordination s).retention = s.retention ∧
    (resetCoordination s).retained = s.retained ∧ (resetCoordination s).demand = s.demand ∧
    (resetCoordination s).gate = s.gate ∧ (resetCoordination s).roster = s.roster ∧
    (resetCoordination s).handler = s.handler ∧
    (resetCoordination s).causeRaised = s.causeRaised ∧ (resetCoordination s).pending = s.pending := by
  simp only [resetCoordination]; (repeat' split) <;> simp

@[simp] theorem engineReset_frame (s : State) :
    (engineReset s).inReset = s.inReset ∧ (engineReset s).straps = s.straps ∧
    (engineReset s).store = s.store ∧ (engineReset s).retention = s.retention ∧
    (engineReset s).retained = s.retained ∧ (engineReset s).handler = s.handler ∧
    (engineReset s).causeRaised = s.causeRaised ∧ (engineReset s).pending = s.pending := by
  simp [engineReset]

@[simp] theorem setLiveBias_frame (b : Nat) (s : State) :
    (setLiveBias b s).inReset = s.inReset ∧ (setLiveBias b s).straps = s.straps ∧
    (setLiveBias b s).store = s.store ∧ (setLiveBias b s).retention = s.retention ∧
    (setLiveBias b s).retained = s.retained ∧ (setLiveBias b s).engine = s.engine ∧
    (setLiveBias b s).timebase = s.timebase ∧ (setLiveBias b s).cycles = s.cycles ∧
    (setLiveBias b s).due = s.due ∧ (setLiveBias b s).demand = s.demand ∧
    (setLiveBias b s).gate = s.gate ∧ (setLiveBias b s).priority = s.priority ∧
    (setLiveBias b s).roster = s.roster ∧ (setLiveBias b s).line = s.line ∧
    (setLiveBias b s).centre = s.centre ∧ (setLiveBias b s).handler = s.handler ∧
    (setLiveBias b s).pending = s.pending := by
  simp [setLiveBias]

@[simp] theorem applyBiasPin_frame (s : State) :
    (applyBiasPin s).inReset = s.inReset ∧ (applyBiasPin s).straps = s.straps ∧
    (applyBiasPin s).store = s.store ∧ (applyBiasPin s).retention = s.retention ∧
    (applyBiasPin s).retained = s.retained ∧ (applyBiasPin s).engine = s.engine ∧
    (applyBiasPin s).timebase = s.timebase ∧ (applyBiasPin s).cycles = s.cycles ∧
    (applyBiasPin s).due = s.due ∧ (applyBiasPin s).demand = s.demand ∧
    (applyBiasPin s).gate = s.gate ∧ (applyBiasPin s).priority = s.priority ∧
    (applyBiasPin s).roster = s.roster ∧ (applyBiasPin s).line = s.line ∧
    (applyBiasPin s).centre = s.centre ∧ (applyBiasPin s).handler = s.handler ∧
    (applyBiasPin s).pending = s.pending := by
  simp only [applyBiasPin]; (repeat' split) <;> simp

@[simp] theorem releaseBiasPin_frame (s : State) :
    (releaseBiasPin s).inReset = s.inReset ∧ (releaseBiasPin s).straps = s.straps ∧
    (releaseBiasPin s).store = s.store ∧ (releaseBiasPin s).retention = s.retention ∧
    (releaseBiasPin s).retained = s.retained ∧ (releaseBiasPin s).engine = s.engine ∧
    (releaseBiasPin s).timebase = s.timebase ∧ (releaseBiasPin s).cycles = s.cycles ∧
    (releaseBiasPin s).due = s.due ∧ (releaseBiasPin s).demand = s.demand ∧
    (releaseBiasPin s).gate = s.gate ∧ (releaseBiasPin s).priority = s.priority ∧
    (releaseBiasPin s).roster = s.roster ∧ (releaseBiasPin s).line = s.line ∧
    (releaseBiasPin s).centre = s.centre ∧ (releaseBiasPin s).handler = s.handler ∧
    (releaseBiasPin s).pending = s.pending := by
  simp [releaseBiasPin]

@[simp] theorem setBiasPin_frame (v : Nat) (s : State) :
    (setBiasPin v s).inReset = s.inReset ∧ (setBiasPin v s).straps = s.straps ∧
    (setBiasPin v s).store = s.store ∧ (setBiasPin v s).retention = s.retention ∧
    (setBiasPin v s).retained = s.retained ∧ (setBiasPin v s).engine = s.engine ∧
    (setBiasPin v s).timebase = s.timebase ∧ (setBiasPin v s).cycles = s.cycles ∧
    (setBiasPin v s).due = s.due ∧ (setBiasPin v s).demand = s.demand ∧
    (setBiasPin v s).gate = s.gate ∧ (setBiasPin v s).priority = s.priority ∧
    (setBiasPin v s).roster = s.roster ∧ (setBiasPin v s).line = s.line ∧
    (setBiasPin v s).centre = s.centre ∧ (setBiasPin v s).handler = s.handler ∧
    (setBiasPin v s).pending = s.pending := by
  simp [setBiasPin]

@[simp] theorem clearCandidate_frame (s : State) :
    (clearCandidate s).inReset = s.inReset ∧ (clearCandidate s).straps = s.straps ∧
    (clearCandidate s).store = s.store ∧ (clearCandidate s).retention = s.retention ∧
    (clearCandidate s).retained = s.retained ∧ (clearCandidate s).engine = s.engine ∧
    (clearCandidate s).timebase = s.timebase ∧ (clearCandidate s).cycles = s.cycles ∧
    (clearCandidate s).due = s.due ∧ (clearCandidate s).demand = s.demand ∧
    (clearCandidate s).gate = s.gate ∧ (clearCandidate s).priority = s.priority ∧
    (clearCandidate s).roster = s.roster ∧ (clearCandidate s).line = s.line ∧
    (clearCandidate s).centre = s.centre ∧ (clearCandidate s).handler = s.handler ∧
    (clearCandidate s).causeRaised = s.causeRaised ∧ (clearCandidate s).pending = s.pending := by
  simp [clearCandidate]

@[simp] theorem applyPlanPin_frame (p : Nat) (s : State) :
    (applyPlanPin p s).inReset = s.inReset ∧ (applyPlanPin p s).straps = s.straps ∧
    (applyPlanPin p s).store = s.store ∧ (applyPlanPin p s).retention = s.retention ∧
    (applyPlanPin p s).retained = s.retained ∧ (applyPlanPin p s).cycles = s.cycles ∧
    (applyPlanPin p s).due = s.due ∧ (applyPlanPin p s).demand = s.demand ∧
    (applyPlanPin p s).selector = s.selector ∧ (applyPlanPin p s).gate = s.gate ∧
    (applyPlanPin p s).priority = s.priority ∧ (applyPlanPin p s).roster = s.roster ∧
    (applyPlanPin p s).line = s.line ∧ (applyPlanPin p s).centre = s.centre ∧
    (applyPlanPin p s).handler = s.handler ∧ (applyPlanPin p s).pending = s.pending := by
  simp only [applyPlanPin]; (repeat' split) <;> simp

@[simp] theorem checkPinAtEntry_frame (s : State) :
    (checkPinAtEntry s).inReset = s.inReset ∧ (checkPinAtEntry s).straps = s.straps ∧
    (checkPinAtEntry s).store = s.store ∧ (checkPinAtEntry s).retention = s.retention ∧
    (checkPinAtEntry s).retained = s.retained ∧ (checkPinAtEntry s).cycles = s.cycles ∧
    (checkPinAtEntry s).due = s.due ∧ (checkPinAtEntry s).demand = s.demand ∧
    (checkPinAtEntry s).gate = s.gate ∧ (checkPinAtEntry s).priority = s.priority ∧
    (checkPinAtEntry s).roster = s.roster ∧ (checkPinAtEntry s).line = s.line ∧
    (checkPinAtEntry s).centre = s.centre ∧ (checkPinAtEntry s).handler = s.handler ∧
    (checkPinAtEntry s).pending = s.pending := by
  simp only [checkPinAtEntry]; (repeat' split) <;> simp

@[simp] theorem plainSteer_frame (j : Junction) (s : State) :
    (plainSteer j s).inReset = s.inReset ∧ (plainSteer j s).straps = s.straps ∧
    (plainSteer j s).store = s.store ∧ (plainSteer j s).retention = s.retention ∧
    (plainSteer j s).retained = s.retained ∧ (plainSteer j s).engine = s.engine ∧
    (plainSteer j s).timebase = s.timebase ∧ (plainSteer j s).cycles = s.cycles ∧
    (plainSteer j s).due = s.due ∧ (plainSteer j s).demand = s.demand ∧
    (plainSteer j s).selector = s.selector ∧ (plainSteer j s).gate = s.gate ∧
    (plainSteer j s).priority = s.priority ∧ (plainSteer j s).roster = s.roster ∧
    (plainSteer j s).centre = s.centre ∧ (plainSteer j s).handler = s.handler ∧
    (plainSteer j s).causeRaised = s.causeRaised ∧ (plainSteer j s).pending = s.pending := by
  simp [plainSteer]

@[simp] theorem plainSteers_frame (js : List Junction) (s : State) :
    (forJunctions plainSteer js s).inReset = s.inReset ∧
    (forJunctions plainSteer js s).straps = s.straps ∧
    (forJunctions plainSteer js s).store = s.store ∧
    (forJunctions plainSteer js s).retention = s.retention ∧
    (forJunctions plainSteer js s).retained = s.retained ∧
    (forJunctions plainSteer js s).engine = s.engine ∧
    (forJunctions plainSteer js s).timebase = s.timebase ∧
    (forJunctions plainSteer js s).cycles = s.cycles ∧
    (forJunctions plainSteer js s).due = s.due ∧
    (forJunctions plainSteer js s).demand = s.demand ∧
    (forJunctions plainSteer js s).selector = s.selector ∧
    (forJunctions plainSteer js s).gate = s.gate ∧
    (forJunctions plainSteer js s).priority = s.priority ∧
    (forJunctions plainSteer js s).roster = s.roster ∧
    (forJunctions plainSteer js s).centre = s.centre ∧
    (forJunctions plainSteer js s).handler = s.handler ∧
    (forJunctions plainSteer js s).causeRaised = s.causeRaised ∧
    (forJunctions plainSteer js s).pending = s.pending := by
  induction js generalizing s with
  | nil => simp [forJunctions]
  | cons e es ih => simp [forJunctions, ih]

@[simp] theorem periodEnds_frame (js : List Junction) (s : State) :
    (forJunctions periodEndFor js s).inReset = s.inReset ∧
    (forJunctions periodEndFor js s).straps = s.straps ∧
    (forJunctions periodEndFor js s).store = s.store ∧
    (forJunctions periodEndFor js s).retention = s.retention ∧
    (forJunctions periodEndFor js s).retained = s.retained ∧
    (forJunctions periodEndFor js s).engine = s.engine ∧
    (forJunctions periodEndFor js s).timebase = s.timebase ∧
    (forJunctions periodEndFor js s).cycles = s.cycles ∧
    (forJunctions periodEndFor js s).due = s.due ∧
    (forJunctions periodEndFor js s).selector = s.selector ∧
    (forJunctions periodEndFor js s).handler = s.handler ∧
    (forJunctions periodEndFor js s).pending = s.pending := by
  induction js generalizing s with
  | nil => simp [forJunctions]
  | cons e es ih => simp [forJunctions, ih]

@[simp] theorem enterRun_frame (s : State) :
    (enterRun s).inReset = s.inReset ∧ (enterRun s).straps = s.straps ∧
    (enterRun s).store = s.store ∧ (enterRun s).retention = s.retention ∧
    (enterRun s).retained = s.retained ∧ (enterRun s).due = s.due ∧
    (enterRun s).demand = s.demand ∧ (enterRun s).gate = s.gate ∧
    (enterRun s).priority = s.priority ∧ (enterRun s).roster = s.roster ∧
    (enterRun s).handler = s.handler ∧ (enterRun s).pending = s.pending := by
  simp [enterRun]

@[simp] theorem publish_frame (x : Snapshot) (s : State) :
    (publish x s).inReset = s.inReset ∧ (publish x s).straps = s.straps ∧
    (publish x s).store = s.store ∧ (publish x s).retention = s.retention ∧
    (publish x s).retained = s.retained ∧ (publish x s).due = s.due ∧
    (publish x s).demand = s.demand ∧ (publish x s).gate = s.gate ∧
    (publish x s).priority = s.priority ∧ (publish x s).roster = s.roster ∧
    (publish x s).handler = s.handler ∧ (publish x s).pending = s.pending := by
  simp only [publish]; (repeat' split) <;> simp

@[simp] theorem completeComputation_frame (x : Snapshot) (s : State) :
    (completeComputation x s).inReset = s.inReset ∧ (completeComputation x s).straps = s.straps ∧
    (completeComputation x s).store = s.store ∧
    (completeComputation x s).retention = s.retention ∧
    (completeComputation x s).retained = s.retained ∧ (completeComputation x s).due = s.due ∧
    (completeComputation x s).demand = s.demand ∧ (completeComputation x s).gate = s.gate ∧
    (completeComputation x s).priority = s.priority ∧
    (completeComputation x s).roster = s.roster ∧ (completeComputation x s).handler = s.handler ∧
    (completeComputation x s).pending = s.pending := by
  simp only [completeComputation]; (repeat' split) <;> simp

@[simp] theorem switchPlan_frame (t : TargetSet) (s : State) :
    (switchPlan t s).inReset = s.inReset ∧ (switchPlan t s).straps = s.straps ∧
    (switchPlan t s).store = s.store ∧ (switchPlan t s).retention = s.retention ∧
    (switchPlan t s).retained = s.retained ∧ (switchPlan t s).cycles = s.cycles ∧
    (switchPlan t s).due = s.due ∧ (switchPlan t s).demand = s.demand ∧
    (switchPlan t s).gate = s.gate ∧ (switchPlan t s).roster = s.roster ∧
    (switchPlan t s).handler = s.handler ∧ (switchPlan t s).pending = s.pending := by
  simp [switchPlan]

@[simp] theorem boundary_frame (s : State) :
    (boundary s).inReset = s.inReset ∧ (boundary s).straps = s.straps ∧
    (boundary s).store = s.store ∧ (boundary s).retention = s.retention ∧
    (boundary s).retained = s.retained ∧ (boundary s).cycles = s.cycles ∧
    (boundary s).due = s.due ∧ (boundary s).demand = s.demand ∧ (boundary s).gate = s.gate ∧
    (boundary s).roster = s.roster ∧ (boundary s).handler = s.handler ∧
    (boundary s).pending = s.pending := by
  simp only [boundary]; (repeat' split) <;> simp

@[simp] theorem biasStep_frame (s : State) :
    (biasStep s).inReset = s.inReset ∧ (biasStep s).straps = s.straps ∧
    (biasStep s).store = s.store ∧ (biasStep s).retention = s.retention ∧
    (biasStep s).retained = s.retained ∧ (biasStep s).engine = s.engine ∧
    (biasStep s).timebase = s.timebase ∧ (biasStep s).cycles = s.cycles ∧
    (biasStep s).due = s.due ∧ (biasStep s).demand = s.demand ∧ (biasStep s).gate = s.gate ∧
    (biasStep s).priority = s.priority ∧ (biasStep s).roster = s.roster ∧
    (biasStep s).line = s.line ∧ (biasStep s).centre = s.centre ∧
    (biasStep s).handler = s.handler ∧ (biasStep s).pending = s.pending := by
  simp only [biasStep]; (repeat' split) <;> simp

@[simp] theorem matchingStep_frame (s : State) :
    (matchingStep s).inReset = s.inReset ∧ (matchingStep s).straps = s.straps ∧
    (matchingStep s).store = s.store ∧ (matchingStep s).retention = s.retention ∧
    (matchingStep s).retained = s.retained ∧ (matchingStep s).cycles = s.cycles ∧
    (matchingStep s).due = s.due ∧ (matchingStep s).demand = s.demand ∧
    (matchingStep s).gate = s.gate ∧ (matchingStep s).priority = s.priority ∧
    (matchingStep s).roster = s.roster ∧ (matchingStep s).line = s.line ∧
    (matchingStep s).centre = s.centre ∧ (matchingStep s).handler = s.handler ∧
    (matchingStep s).pending = s.pending := by
  simp only [matchingStep]; (repeat' split) <;> simp

@[simp] theorem lapsePins_frame (s : State) :
    (lapsePins s).inReset = s.inReset ∧ (lapsePins s).straps = s.straps ∧
    (lapsePins s).store = s.store ∧ (lapsePins s).retention = s.retention ∧
    (lapsePins s).retained = s.retained ∧ (lapsePins s).engine = s.engine ∧
    (lapsePins s).timebase = s.timebase ∧ (lapsePins s).cycles = s.cycles ∧
    (lapsePins s).due = s.due ∧ (lapsePins s).demand = s.demand ∧ (lapsePins s).gate = s.gate ∧
    (lapsePins s).priority = s.priority ∧ (lapsePins s).roster = s.roster ∧
    (lapsePins s).line = s.line ∧ (lapsePins s).handler = s.handler ∧
    (lapsePins s).pending = s.pending := by
  simp [lapsePins]

@[simp] theorem takeFrame_frame (p : Port) (s : State) :
    (takeFrame p s).inReset = s.inReset ∧ (takeFrame p s).straps = s.straps ∧
    (takeFrame p s).store = s.store ∧ (takeFrame p s).retention = s.retention ∧
    (takeFrame p s).retained = s.retained ∧ (takeFrame p s).engine = s.engine ∧
    (takeFrame p s).timebase = s.timebase ∧ (takeFrame p s).cycles = s.cycles ∧
    (takeFrame p s).due = s.due ∧ (takeFrame p s).demand = s.demand ∧
    (takeFrame p s).selector = s.selector ∧ (takeFrame p s).gate = s.gate ∧
    (takeFrame p s).priority = s.priority ∧ (takeFrame p s).roster = s.roster ∧
    (takeFrame p s).causeRaised = s.causeRaised ∧ (takeFrame p s).pending = s.pending := by
  cases p <;> simp [takeFrame]

end Sys2Proof.Machine
end

