-- ==== Sys2Proof/Laws/Ports.lean ====
section
/-! SUPPORT. What the two ports hold after each operation that queues a frame (R154, R163, R165, R166). -/

namespace Sys2Proof.Machine

open Sys2Proof

/-! ### The Centre Port (R163) -/

/-- Starting a frame on the centre link moves it from its queue to the wire, and changes nothing else. -/
@[simp] theorem startCentre_centre (s : State) :
    (startCentre s).centre.rx = s.centre.rx ∧ (startCentre s).centre.errors = s.centre.errors ∧
    (startCentre s).centre.noticeSeq = s.centre.noticeSeq ∧
    centreReplies (startCentre s).centre = centreReplies s.centre ∧
    centreNotices (startCentre s).centre = centreNotices s.centre := by
  unfold startCentre
  split
  · simp
  · next h =>
    simp only [Bool.or_eq_true, not_or, Option.isSome_iff_ne_none, ne_eq, not_not] at h
    split
    · next r rest hr =>
      simp [centreReplies, centreNotices, h.1, hr, CentreSending.replySent, CentreSending.noticeSent]
    · next hr =>
      split
      · next n rest hn =>
        simp [centreReplies, centreNotices, h.1, hr, hn, CentreSending.replySent,
          CentreSending.noticeSent]
      · simp

/-- After the start the centre transmitter stands idle only while nothing waits, and it sends the frame of
its item, if it did so before (R163). -/
theorem startCentre_goes {s : State}
    (hr : ∀ r chars, s.centre.sending = some (.reply r chars) → chars = (replyFrame s r).chars)
    (hn : ∀ n chars, s.centre.sending = some (.notice n chars) → chars = (noticeFrame s n).chars)
    (hp : ∀ x, s.handler.reset = some x → x.replyDone = false → centreReplies s.centre ≠ []) :
    CentreGoes (startCentre s) := by
  suffices h : (s.inReset = false → (∀ x, s.handler.reset = some x → x.replyDone = false) →
        (startCentre s).centre.sending = none →
        (startCentre s).centre.replies = [] ∧ (startCentre s).centre.notices = []) ∧
      (∀ r chars, (startCentre s).centre.sending = some (.reply r chars) →
        chars = (replyFrame s r).chars) ∧
      (∀ n chars, (startCentre s).centre.sending = some (.notice n chars) →
        chars = (noticeFrame s n).chars) by
    refine ⟨by simpa using h.1, ?_, ?_, by simpa using hp⟩
    · simpa [replyFrame, unitFrame, unitAddress] using h.2.1
    · simpa [noticeFrame, unitFrame, unitAddress] using h.2.2
  unfold startCentre
  split
  · next h =>
    refine ⟨fun _ hd hidle => ?_, hr, hn⟩
    simp only [hidle, Option.isSome_none, Bool.false_or, Option.any_eq_true] at h
    obtain ⟨x, hx, hdone⟩ := h
    simp [hd x hx] at hdone
  · split
    · refine ⟨fun _ _ hidle => by simp at hidle, ?_, by simp⟩
      rintro r chars h
      simp only [State.setCentre, Option.some.injEq, CentreSending.reply.injEq] at h
      obtain ⟨rfl, rfl⟩ := h
      rfl
    · next hreplies =>
      split
      · refine ⟨fun _ _ hidle => by simp at hidle, by simp, ?_⟩
        rintro n chars h
        simp only [State.setCentre, Option.some.injEq, CentreSending.notice.injEq] at h
        obtain ⟨rfl, rfl⟩ := h
        rfl
      · next hnotices => exact ⟨fun _ _ _ => ⟨hreplies, hnotices⟩, hr, hn⟩

/-- The waiting notices do not grow when a frame starts. -/
theorem startCentre_notices_le (s : State) :
    (startCentre s).centre.notices.length ≤ s.centre.notices.length := by
  unfold startCentre
  split
  · simp
  · split
    · simp
    · split <;> simp_all

/-- The number of replies does not change when a frame starts. -/
theorem centreReplyCount_eq (c : Centre) : centreReplyCount c = (centreReplies c).length := by
  unfold centreReplyCount centreReplies
  cases h : c.sending with
  | none => simp
  | some f => cases f <;> simp [CentreSending.isReply, CentreSending.replySent]

/-- The Centre Port keeps its bounds when a frame starts. -/
theorem startCentre_bounded {s : State} (h : s.centre.Bounded) : (startCentre s).centre.Bounded := by
  obtain ⟨hrx, he, hs, hr, _⟩ := startCentre_centre s
  exact ⟨by rw [hrx]; exact h.rx, by rw [centreReplyCount_eq, hr, ← centreReplyCount_eq]; exact h.replies,
    Nat.le_trans (startCentre_notices_le s) h.notices, by rw [hs]; exact h.seq, by rw [he]; exact h.errors⟩

/-- A queued notice takes the next sequence value, and the receive queue, the counters and the replies
stay. -/
@[simp] theorem queueNotice_centre (body : NoticeBody) (s : State) :
    (queueNotice body s).centre.rx = s.centre.rx ∧
    (queueNotice body s).centre.errors = s.centre.errors ∧
    (queueNotice body s).centre.noticeSeq = (s.centre.noticeSeq + 1) % 256 ∧
    centreReplies (queueNotice body s).centre = centreReplies s.centre := by
  simp only [queueNotice, startCentre_centre, setCentre_centre, true_and]
  rfl

/-- The notices after one more is queued: the oldest waiting one is removed from a full queue. -/
@[simp] theorem queueNotice_centreNotices (body : NoticeBody) (s : State) :
    centreNotices (queueNotice body s).centre =
      (s.centre.sending.bind CentreSending.noticeSent).toList ++ makeRoom s.centre.notices ++
        [{ seq := (s.centre.noticeSeq + 1) % 256, body }] := by
  simp only [queueNotice, startCentre_centre]
  simp [centreNotices]

/-- One notice was queued. -/
theorem queueNotice_noticed (body : NoticeBody) (s : State) :
    NoticesQueued s (queueNotice body s) [body] := by
  refine ⟨by simp [seqAfter], ?_, ?_⟩
  · rw [queueNotice_centreNotices]
    simp only [numbered, centreNotices, makeRoom]
    split
    · exact ⟨_, List.take_append_drop ..⟩
    · next h =>
      generalize (s.centre.sending.bind CentreSending.noticeSent).toList = f
      rcases hw : s.centre.notices with _ | ⟨w, rest⟩
      · simp [hw, Config.noticePlaces] at h
      · simp only [hw, List.length_cons, Config.noticePlaces] at h ⊢
        refine ⟨(rest.reverse.drop 15) ++ f.reverse, ?_⟩
        simp only [List.drop_one, List.tail_cons, List.reverse_append, List.reverse_cons,
          List.reverse_nil, List.nil_append, List.take_succ_cons,
          List.append_assoc, List.cons_append]
        rw [List.take_append_of_le_length (by simp; omega), ← List.append_assoc,
          List.take_append_drop]
  · intro h
    have hr : makeRoom s.centre.notices = s.centre.notices := by
      unfold makeRoom
      rw [if_pos]
      simp [centreNotices] at h
      omega
    rw [queueNotice_centreNotices, hr]
    simp [numbered, centreNotices]

/-- The Centre Port keeps its bounds when a notice is queued. -/
theorem queueNotice_bounded {s : State} (body : NoticeBody) (h : s.centre.Bounded) :
    (queueNotice body s).centre.Bounded := by
  unfold queueNotice
  refine startCentre_bounded ⟨h.rx, h.replies, ?_, Nat.mod_lt _ (by decide), h.errors⟩
  have := h.notices
  simp only [State.setCentre, makeRoom]
  split <;> simp [Config.noticePlaces] at * <;> omega

/-! ### The Line Port (R154) -/

/-- A frame added to the REPLY queue stands at its end, and nothing else of the port changes. -/
@[simp] theorem queueLineReply_line (item : ReplyItem) (s : State) :
    (queueLineReply item s).line.state = s.line.state ∧
    (queueLineReply item s).line.rx = s.line.rx ∧
    (queueLineReply item s).line.errors = s.line.errors ∧
    (queueLineReply item s).line.arbitrationDrops = s.line.arbitrationDrops ∧
    (queueLineReply item s).line.missedBeats = s.line.missedBeats ∧
    lineBeats (queueLineReply item s).line = lineBeats s.line ∧
    lineSteers (queueLineReply item s).line = lineSteers s.line ∧
    lineReplies (queueLineReply item s).line = lineReplies s.line ++ [item] ∧
    lineReplyCount (queueLineReply item s).line = lineReplyCount s.line + 1 := by
  simp only [queueLineReply, startLine_line, startLine_holds, startLine_lineReplyCount]
  simp [lineBeats, lineSteers, lineReplies, lineReplyCount, flightBeats, flightSteers, flightReplies]
  omega

/-- The credits stay when a reply is queued, or are refilled. -/
theorem queueLineReply_credits (item : ReplyItem) (s : State) : CreditsKept s (queueLineReply item s) := by
  simpa [CreditsKept, queueLineReply] using startLine_credits
    (s.setLine { s.line with replies := s.line.replies ++ [{ item, losses := 0 }] })

/-- The Line Port keeps its bounds when a frame finds a place in the REPLY queue. -/
theorem queueLineReply_bounded {s : State} (item : ReplyItem) (h : s.line.Bounded)
    (room : lineReplyCount s.line < Config.lineReplyPlaces) :
    (queueLineReply item s).line.Bounded := by
  unfold queueLineReply
  refine startLine_bounded ⟨h.rx, ?_, h.steers, h.steerCredit, h.replyCredit, h.beatLosses,
    h.steerLosses, ?_, h.losses, h.errors, h.drops, h.missed⟩
  · simp only [lineReplyCount, setLine_line, List.length_append, List.length_singleton] at *; omega
  · have := h.replyLosses
    intro w hw
    simp only [setLine_line, List.mem_append, List.mem_singleton] at hw
    rcases hw with hw | rfl
    · exact this w hw
    · simp [Config.lossLimit]

/-- A counter stays in its range when it is raised. -/
theorem bump_le (v : Nat) : bump v ≤ Config.counterMax := Nat.min_le_left _ _

/-- The counters stay in their range when one is raised. -/
theorem RxCounters.raise_bounded {c : RxCounters} (f : RxFault) (h : c.Bounded) :
    (c.raise f).Bounded := by
  cases f <;> simp only [RxCounters.raise] <;>
    exact ⟨by first | exact bump_le _ | exact h.framing, by first | exact bump_le _ | exact h.brokenFrame,
      by first | exact bump_le _ | exact h.length, by first | exact bump_le _ | exact h.check,
      by first | exact bump_le _ | exact h.overrun⟩

/-- The junctions of the waiting steers after one more is placed. -/
theorem placeSteer_junctions (st : Steer) (ws : List WaitingSteer) :
    (placeSteer st ws).map (fun w => w.steer.junction) =
      if st.junction ∈ ws.map (fun w => w.steer.junction) then ws.map (fun w => w.steer.junction)
      else ws.map (fun w => w.steer.junction) ++ [st.junction] := by
  induction ws with
  | nil => simp [placeSteer]
  | cons w rest ih =>
    by_cases h : w.steer.junction = st.junction
    · simp [placeSteer, h]
    · have h' : ¬ st.junction = w.steer.junction := fun e => h e.symm
      simp only [placeSteer, if_neg h, List.map_cons, ih, List.mem_cons, h', false_or]
      split <;> simp

/-- Every steer that waits after one is placed waited before or is the new one, with no loss. -/
theorem placeSteer_mem {st : Steer} {ws : List WaitingSteer} {w : WaitingSteer}
    (h : w ∈ placeSteer st ws) : w ∈ ws ∨ w = { steer := st, losses := 0 } := by
  induction ws with
  | nil => exact .inr (by simpa [placeSteer] using h)
  | cons v rest ih =>
    simp only [placeSteer] at h
    split at h
    · rcases List.mem_cons.1 h with rfl | h
      · exact .inr rfl
      · exact .inl (List.mem_cons_of_mem _ h)
    · rcases List.mem_cons.1 h with rfl | h
      · exact .inl List.mem_cons_self
      · exact (ih h).imp (List.mem_cons_of_mem _) id

/-- The Line Port keeps its bounds when a steer is queued. -/
theorem queueSteer_bounded {s : State} (j : Junction) (a : PriorityAction) (n : Nat)
    (h : s.line.Bounded) : (queueSteer j a n s).line.Bounded := by
  unfold queueSteer
  refine startLine_bounded ⟨h.rx, h.replies, ?_, h.steerCredit, h.replyCredit, h.beatLosses, ?_,
    h.replyLosses, h.losses, h.errors, h.drops, h.missed⟩
  · simp only [setLine_line, placeSteer_junctions]
    have := h.steers
    split
    · exact this
    · next hn =>
      refine List.nodup_append.2 ⟨this, by simp, fun a ha b hb => ?_⟩
      rintro rfl
      exact hn ((List.mem_singleton.1 hb) ▸ ha)
  · intro w hw
    rcases placeSteer_mem hw with hw | rfl
    · exact h.steerLosses w hw
    · simp [Config.lossLimit]

/-- A queued steer leaves the line state, the receive queue, every counter, the beats and the replies. -/
@[simp] theorem queueSteer_line (j : Junction) (a : PriorityAction) (n : Nat) (s : State) :
    (queueSteer j a n s).line.state = s.line.state ∧ (queueSteer j a n s).line.rx = s.line.rx ∧
    (queueSteer j a n s).line.errors = s.line.errors ∧
    (queueSteer j a n s).line.arbitrationDrops = s.line.arbitrationDrops ∧
    (queueSteer j a n s).line.missedBeats = s.line.missedBeats ∧
    lineBeats (queueSteer j a n s).line = lineBeats s.line ∧
    lineReplies (queueSteer j a n s).line = lineReplies s.line ∧
    lineReplyCount (queueSteer j a n s).line = lineReplyCount s.line := by
  simp only [queueSteer, startLine_line, startLine_holds, startLine_lineReplyCount]
  simp [lineBeats, lineReplies, lineReplyCount, flightBeats, flightReplies]

/-- A steer just queued is in the port, waiting or in flight. -/
theorem queueSteer_mem (j : Junction) (a : PriorityAction) (n : Nat) (s : State) :
    steerOf s j a n ∈ lineSteers (queueSteer j a n s).line := by
  simp only [queueSteer, startLine_holds]
  simp only [lineSteers, setLine_line, List.mem_append]
  refine .inr ?_
  generalize steerOf s j a n = st
  generalize s.line.steers = ws
  induction ws with
  | nil => simp [placeSteer]
  | cons w rest ih =>
    simp only [placeSteer]
    split
    · simp
    · exact List.mem_cons_of_mem _ ih

/-- A queued beat takes the next beat sequence value. -/
@[simp] theorem queueBeat_timebase (s : State) :
    (queueBeat s).timebase = { s.timebase with beatSeq := (s.timebase.beatSeq + 1) % 256 } := by
  simp [queueBeat]

/-- A queued beat leaves the line state, the receive queue, the error counters, the steers and the
replies; it takes the place of a waiting beat, which counts as missed (R154). -/
@[simp] theorem queueBeat_line (s : State) :
    (queueBeat s).line.state = s.line.state ∧ (queueBeat s).line.rx = s.line.rx ∧
    (queueBeat s).line.errors = s.line.errors ∧
    (queueBeat s).line.arbitrationDrops = s.line.arbitrationDrops ∧
    (queueBeat s).line.missedBeats =
      (if s.line.beat.isSome then bump s.line.missedBeats else s.line.missedBeats) ∧
    lineSteers (queueBeat s).line = lineSteers s.line ∧
    lineReplies (queueBeat s).line = lineReplies s.line ∧
    lineReplyCount (queueBeat s).line = lineReplyCount s.line := by
  simp only [queueBeat, startLine_line, startLine_holds, startLine_lineReplyCount]
  simp [lineSteers, lineReplies, lineReplyCount, flightSteers, flightReplies]

/-- The Line Port keeps its bounds when a beat is queued. -/
theorem queueBeat_bounded {s : State} (h : s.line.Bounded) : (queueBeat s).line.Bounded := by
  unfold queueBeat
  refine startLine_bounded ⟨h.rx, h.replies, h.steers, h.steerCredit, h.replyCredit, ?_, h.steerLosses,
    h.replyLosses, h.losses, h.errors, h.drops, ?_⟩
  · intro w hw
    simp only [setLine_line, Option.some.injEq] at hw
    subst hw
    simp [Config.lossLimit]
  · simp only [setLine_line]
    split
    · exact bump_le _
    · exact h.missed

/-! ### Taking a frame and answering it (R165, R166) -/

/-- Taking a frame shortens the receive queue of its port, and the pointer names the port. -/
theorem takeFrame_taken (s : State) (t : Taken) : FrameTaken s (takeFrame t.port s) t := by
  rcases t with ⟨_ | _, f, sd⟩ <;> simp [FrameTaken, takeFrame, receiveQueue, Port.other]

/-- Taking a frame changes nothing but the receive queue and the pointer. -/
theorem takeFrame_onlyPorts (s : State) (p : Port) : OnlyPorts s (takeFrame p s) := by
  cases p <;> refine ⟨rfl, ⟨rfl, rfl, rfl, rfl, rfl, rfl, .inl ⟨rfl, rfl⟩⟩, ⟨rfl, rfl, rfl⟩, rfl⟩

/-- Taking a frame leaves every reply in its place. -/
@[simp] theorem takeFrame_queuedReplies (s : State) (p q : Port) :
    queuedReplies (takeFrame p s) q = queuedReplies s q := by
  cases p <;> cases q <;> rfl

/-- A reply stands at the end of its port's replies, and nothing else of the ports changes. -/
theorem queueReply_onlyPorts (p : Port) (f : Frame) (c : ReplyCode) (r : List Byte) (s : State) :
    OnlyPorts s (queueReply p f c r s) := by
  cases p
  · refine ⟨by apply State.ext <;> simp, ⟨?_, ?_, ?_, ?_, ?_, ?_, queueLineReply_credits _ _⟩,
      ⟨?_, ?_, ?_⟩, ?_⟩ <;> simp [queueReply]
  · refine ⟨?_, ⟨?_, ?_, ?_, ?_, ?_, ?_, .inl ⟨?_, ?_⟩⟩, ⟨?_, ?_, ?_⟩, ?_⟩ <;>
      first
        | (simp only [queueReply, startCentre_centre]; rfl)
        | (simp only [queueReply]; simp; done)
        | (apply State.ext <;> simp)

/-- The replies of both ports after a reply is queued. -/
theorem queueReply_queuedReplies (t : Taken) (c : ReplyCode) (r : List Byte) (s : State) :
    queuedReplies (queueReply t.port t.frame c r s) t.port =
      queuedReplies s t.port ++ [replyTo t c r] ∧
    queuedReplies (queueReply t.port t.frame c r s) t.port.other = queuedReplies s t.port.other := by
  rcases t with ⟨_ | _, f, sd⟩ <;>
    simp only [queueReply, queuedReplies, replyTo, Port.other, queueLineReply_line,
      queueLineReply_frame, startCentre_frame, startCentre_centre] <;>
    simp [centreReplies]

/-- The receive queues stay when a reply is queued. -/
@[simp] theorem queueReply_receiveQueue (p q : Port) (f : Frame) (c : ReplyCode) (r : List Byte)
    (s : State) : receiveQueue (queueReply p f c r s) q = receiveQueue s q := by
  cases p <;> cases q <;> simp [queueReply, receiveQueue]

/-- A frame taken and answered: one reply on its port, and nothing else changes. -/
theorem answered_spec (s : State) (t : Taken) (c : ReplyCode) (r : List Byte) :
    Replied s (queueReply t.port t.frame c r (takeFrame t.port s)) t c r ∧
    OnlyPorts s (queueReply t.port t.frame c r (takeFrame t.port s)) := by
  have ht := takeFrame_taken s t
  have hq := queueReply_queuedReplies t c r (takeFrame t.port s)
  have hp := takeFrame_onlyPorts s t.port
  have ho := queueReply_onlyPorts t.port t.frame c r (takeFrame t.port s)
  refine ⟨⟨⟨by simpa using ht.1, by simpa using ht.2.1, by simpa using ht.2.2⟩, by simpa using hq.1,
    by simpa using hq.2⟩, ?_, ⟨?_, ?_, ?_⟩⟩
  · apply State.ext <;> simp
  · obtain ⟨a1, a2, a3, a4, a5, a6, a7⟩ := hp.2.1
    obtain ⟨b1, b2, b3, b4, b5, b6, b7⟩ := ho.2.1
    refine ⟨b1.trans a1, b2.trans a2, b3.trans a3, b4.trans a4, b5.trans a5, b6.trans a6, ?_⟩
    rcases b7 with ⟨x, y⟩ | h
    · rcases a7 with ⟨z, w⟩ | ⟨z, w⟩
      · exact .inl ⟨x.trans z, y.trans w⟩
      · exact .inr ⟨x.trans z, y.trans w⟩
    · exact .inr h
  · obtain ⟨a1, a2, a3⟩ := hp.2.2.1
    obtain ⟨b1, b2, b3⟩ := ho.2.2.1
    exact ⟨b1.trans a1, b2.trans a2, b3.trans a3⟩
  · exact ho.2.2.2.trans hp.2.2.2

end Sys2Proof.Machine
end

