-- ==== Sys2Proof/Laws/Requests.lean ====
section
/-! SUPPORT. What serving a request can do (R165, R166), said once: the frame is taken and answered, and an
accepted request has its effect on the state in which it has been answered. -/

namespace Sys2Proof.Machine

open Sys2Proof

/-- The state once a taken frame has been answered. -/
def answered (s : State) (t : Taken) (code : ReplyCode) (result : List Byte) : State :=
  queueReply t.port t.frame code result (takeFrame t.port s)

/-- An answer leaves everything but the ports and the pointer. -/
@[simp] theorem answered_frame (s : State) (t : Taken) (c : ReplyCode) (r : List Byte) :
    (answered s t c r).inReset = s.inReset ∧ (answered s t c r).straps = s.straps ∧
    (answered s t c r).store = s.store ∧ (answered s t c r).retention = s.retention ∧
    (answered s t c r).retained = s.retained ∧ (answered s t c r).engine = s.engine ∧
    (answered s t c r).timebase = s.timebase ∧ (answered s t c r).cycles = s.cycles ∧
    (answered s t c r).due = s.due ∧ (answered s t c r).demand = s.demand ∧
    (answered s t c r).selector = s.selector ∧ (answered s t c r).gate = s.gate ∧
    (answered s t c r).priority = s.priority ∧ (answered s t c r).roster = s.roster ∧
    (answered s t c r).causeRaised = s.causeRaised ∧ (answered s t c r).pending = s.pending := by
  simp [answered]

/-- An answer yields one reply on the frame's port and leaves the ports quiet (R166). -/
theorem answered_replied (s : State) (t : Taken) (c : ReplyCode) (r : List Byte) :
    Replied s (answered s t c r) t c r ∧ OnlyPorts s (answered s t c r) := answered_spec s t c r

/-- An answer leaves an accepted RESET_UNIT as it was. -/
@[simp] theorem answered_reset (s : State) (t : Taken) (c : ReplyCode) (r : List Byte) :
    (answered s t c r).handler.reset = s.handler.reset := (answered_spec s t c r).2.2.2.2

/-- The pointer names the port of the frame that was answered. -/
@[simp] theorem answered_served (s : State) (t : Taken) (c : ReplyCode) (r : List Byte) :
    (answered s t c r).handler.served = t.port := (answered_spec s t c r).1.1.1

/-- A state whose ports and pointer are those of the answered state was replied to as that one. -/
theorem replied_of_eq {s u : State} {t : Taken} {c : ReplyCode} {r : List Byte}
    (hl : u.line = (answered s t c r).line) (hc : u.centre = (answered s t c r).centre)
    (hh : u.handler = (answered s t c r).handler) : Replied s u t c r ∧ PortsQuiet s u := by
  obtain ⟨⟨⟨h1, h2, h3⟩, h4, h5⟩, _, h6⟩ := answered_replied s t c r
  have hr : ∀ p, receiveQueue u p = receiveQueue (answered s t c r) p := by
    intro p; cases p <;> simp [receiveQueue, hl, hc]
  have hq : ∀ p, queuedReplies u p = queuedReplies (answered s t c r) p := by
    intro p; cases p <;> simp [queuedReplies, hl, hc]
  refine ⟨⟨⟨by rw [hh]; exact h1, by rw [hr]; exact h2, by rw [hr]; exact h3⟩,
    by rw [hq]; exact h4, by rw [hq]; exact h5⟩, ?_⟩
  simpa only [PortsQuiet, LineQuiet, CentreQuiet, CreditsKept, hl, hc, hh] using h6

/-- An accepted request that leaves the ports as its answer left them. -/
theorem accepted_of_eq {s u : State} {t : Taken} {r : List Byte}
    (hl : u.line = (answered s t .ok r).line) (hc : u.centre = (answered s t .ok r).centre)
    (hh : u.handler = (answered s t .ok r).handler) : Accepted s u t r := replied_of_eq hl hc hh

/-- A refusal is an answer and nothing more. -/
theorem refused_answered (s : State) (t : Taken) (c : ReplyCode) : Refused s (answered s t c []) t c :=
  answered_replied s t c []

section
variable {α : Type} {k : RequestKind} {parse : List Byte → Option α}
  {answer : Taken → α → State → Answer} {effect : Taken → α → State → State} {s : State} {t : Taken}
  {body : α}

/-- A request that its block accepts: the reply OK with its result, then the effect, and at its end the
arrival of the causes it raised. -/
theorem serve_accepted (hn : nextFrame s = some t) (hk : kindOf t.frame.kind = some k)
    (hr : hasRight k t = true) (hp : parse t.frame.payload = some body)
    (ha : (answer t body (takeFrame t.port s)).code = .ok) :
    serve k parse answer effect s =
      settle (effect t body (answered s t .ok (answer t body (takeFrame t.port s)).result)) := by
  simp [serve, hn, hk, hr, hp, ha, answered, Answer.carried]

/-- A request that its block refuses is answered with the code. -/
theorem serve_refused {c : ReplyCode} (hn : nextFrame s = some t) (hk : kindOf t.frame.kind = some k)
    (hr : hasRight k t = true) (hp : parse t.frame.payload = some body)
    (ha : (answer t body (takeFrame t.port s)).code = c) (hc : c ≠ .ok) :
    serve k parse answer effect s = answered s t c [] := by
  simp [serve, hn, hk, hr, hp, ha, hc, answered, Answer.carried]

/-- A sender without the right to the kind is answered REFUSED_RIGHTS. -/
theorem serve_rights (hn : nextFrame s = some t) (hk : kindOf t.frame.kind = some k)
    (hr : hasRight k t = false) :
    serve k parse answer effect s = answered s t .refusedRights [] := by
  simp [serve, hn, hk, hr, answered]

/-- A payload that the kind does not admit is answered BAD_ARGUMENT. -/
theorem serve_payload (hn : nextFrame s = some t) (hk : kindOf t.frame.kind = some k)
    (hr : hasRight k t = true) (hp : parse t.frame.payload = none) :
    serve k parse answer effect s = answered s t .badArgument [] := by
  simp [serve, hn, hk, hr, hp, answered]

/-- Everything that serving a request can do. -/
theorem serve_cases :
    serve k parse answer effect s = s ∨
    ∃ t, nextFrame s = some t ∧ kindOf t.frame.kind = some k ∧
      ((∃ c, c ≠ .ok ∧ serve k parse answer effect s = answered s t c []) ∨
       ∃ body r, hasRight k t = true ∧ parse t.frame.payload = some body ∧
         (answer t body (takeFrame t.port s)).code = .ok ∧
         r = (answer t body (takeFrame t.port s)).result ∧
         serve k parse answer effect s = settle (effect t body (answered s t .ok r))) := by
  cases hn : nextFrame s with
  | none => simp [serve, hn]
  | some t =>
    by_cases hk : kindOf t.frame.kind = some k
    · refine .inr ⟨t, rfl, hk, ?_⟩
      cases hr : hasRight k t with
      | false => exact .inl ⟨.refusedRights, by simp, serve_rights hn hk hr⟩
      | true =>
        cases hp : parse t.frame.payload with
        | none => exact .inl ⟨.badArgument, by simp, serve_payload hn hk hr hp⟩
        | some body =>
          by_cases ha : (answer t body (takeFrame t.port s)).code = .ok
          · exact .inr ⟨body, _, rfl, rfl, ha, rfl, serve_accepted hn hk hr hp ha⟩
          · exact .inl ⟨_, ha, serve_refused hn hk hr hp rfl ha⟩
    · exact .inl (by simp [serve, hn, hk])

end

/-- The end of an event that raised no cause. -/
theorem settle_rest {s : State} (h : s.causeRaised = false) : settle s = s := by simp [settle, h]

/-- The state with a flag that is clear written clear is the same state. -/
theorem setCauseRaised_rest {s : State} (h : s.causeRaised = false) : s.setCauseRaised false = s := by
  cases s; simp_all [State.setCauseRaised]

/-- After the end of an event no cause waits. -/
@[simp] theorem settle_causeRaised (s : State) : (settle s).causeRaised = false := by
  unfold settle
  split
  · simp
  · next h => simpa using h

/-- The refusals of a list, none of which applies. -/
theorem firstRefusal_ok {l : List (Bool × ReplyCode)} (h : ∀ x ∈ l, x.1 = false) :
    firstRefusal l = .ok := by
  induction l with
  | nil => rfl
  | cons x rest ih =>
    obtain ⟨b, c⟩ := x
    have hb : b = false := h (b, c) List.mem_cons_self
    simpa [firstRefusal, hb] using ih fun y hy => h y (List.mem_cons_of_mem _ hy)

/-- The number of a plan as a test. -/
@[simp] theorem isPlan_succ (p : Fin 24) : isPlan (p.val + 1) = true := by
  have := p.isLt
  simp [isPlan]

/-- The record of plan p + 1. -/
@[simp] theorem Store.plan_succ (st : Store) (p : Fin 24) : st.plan (p.val + 1) = st.plans[p] := by
  simp [Store.plan, nth]

/-- The index of plan p + 1. -/
@[simp] theorem planIndex_succ (p : Fin 24) (h : isPlan (p.val + 1) = true) :
    planIndex (p.val + 1) h = p := by
  simp [planIndex]

/-- A plan's number is one above its index. -/
theorem exists_plan {n : Nat} (h : isPlan n = true) : ∃ p : Fin 24, n = p.val + 1 := by
  simp [isPlan] at h
  exact ⟨⟨n - 1, by omega⟩, by simp; omega⟩

/-- The junction record that a number below 12 names. -/
@[simp] theorem junctionAt_val (j : Junction) : junctionAt j.val = some j := by simp [junctionAt]

/-- No junction record has a number of 12 or above. -/
theorem junctionAt_none {n : Nat} (h : 12 ≤ n) : junctionAt n = none := by
  simp [junctionAt]; omega

end Sys2Proof.Machine
end

