-- ==== Sys2Proof/Laws/Effects.lean ====
section
/-! SUPPORT. What the effect of a command tells the two ports, as one relation that composes: the OUTCOME
frames placed behind the replies and the notices queued. Each shared operation of the blocks has one lemma
in these terms. -/

namespace Sys2Proof.Machine

open Sys2Proof

/-! ### The order of the notices (R163) -/

/-- The sequence value after notices in two lots. -/
theorem seqAfter_add (seq m n : Nat) : seqAfter seq (m + n) = seqAfter (seqAfter seq m) n := by
  induction m generalizing seq with
  | zero => simp [seqAfter]
  | succ m ih => rw [Nat.succ_add]; simpa [seqAfter] using ih _

/-- Notices in two lots carry on in one sequence. -/
theorem numbered_append (seq : Nat) (a b : List NoticeBody) :
    numbered seq (a ++ b) = numbered seq a ++ numbered (seqAfter seq a.length) b := by
  induction a generalizing seq with
  | nil => simp [numbered, seqAfter]
  | cons x rest ih => simp [numbered, seqAfter, ih]

/-- Each notice is one. -/
@[simp] theorem numbered_length (seq : Nat) (a : List NoticeBody) :
    (numbered seq a).length = a.length := by
  induction a generalizing seq with
  | nil => rfl
  | cons x rest ih => simp [numbered, ih]

/-- No notice was queued. -/
theorem NoticesQueued.refl {s u : State} (h : u.centre = s.centre) : NoticesQueued s u [] := by
  refine ⟨by simp [seqAfter, h], ?_, by simp [numbered, h]⟩
  simpa [numbered, h] using List.take_prefix _ _

/-- Notices queued in two lots are queued in order. -/
theorem NoticesQueued.trans {s u v : State} {a b : List NoticeBody} (h : NoticesQueued s u a)
    (h' : NoticesQueued u v b) : NoticesQueued s v (a ++ b) := by
  obtain ⟨h1, h2, h3⟩ := h
  obtain ⟨k1, k2, k3⟩ := h'
  refine ⟨by rw [k1, h1, List.length_append, seqAfter_add], ?_, ?_⟩
  · rw [numbered_append, ← h1, ← List.append_assoc]
    refine List.IsPrefix.trans ?_ k2
    generalize centreNotices s.centre ++ numbered s.centre.noticeSeq a = old at h2
    simp only [List.reverse_append, List.take_append]
    rw [List.prefix_append_right_inj]
    obtain ⟨rest, hr⟩ := h2
    rw [← hr, List.take_append, List.take_take,
      Nat.min_eq_left (Nat.sub_le _ _)]
    exact List.prefix_append _ _
  · intro hl
    rw [List.length_append] at hl
    have e := h3 (by omega)
    rw [k3 (by rw [e]; simp; omega), e, numbered_append, h1, List.append_assoc]

/-! ### The credits (R155) -/

/-- Credits kept or refilled twice are kept or refilled. -/
theorem CreditsKept.trans {s u v : State} (h : CreditsKept s u) (h' : CreditsKept u v) :
    CreditsKept s v := by
  rcases h' with ⟨x, y⟩ | h'
  · rcases h with ⟨z, w⟩ | ⟨z, w⟩
    · exact .inl ⟨x.trans z, y.trans w⟩
    · exact .inr ⟨x.trans z, y.trans w⟩
  · exact .inr h'

/-! ### What an effect tells the ports -/

/-- Between `s` and `u` these OUTCOME frames were placed behind the replies of the line and these notices
were queued; the receive queues, the centre replies, the beats, the counters, the line state and the
pointer stay, and the credits but for a refill. Steers are left open. -/
structure Spoke (s u : State) (outs : List ReplyItem) (bodies : List NoticeBody) : Prop where
  kept          : LineKept s u
  missed        : u.line.missedBeats = s.line.missedBeats
  beats         : lineBeats u.line = lineBeats s.line
  rx            : u.line.rx = s.line.rx
  replies       : lineReplies u.line = lineReplies s.line ++ outs
  centreRx      : u.centre.rx = s.centre.rx
  centreErrors  : u.centre.errors = s.centre.errors
  centreReplies : centreReplies u.centre = centreReplies s.centre
  notices       : NoticesQueued s u bodies
  handler       : u.handler = s.handler

/-- An effect that leaves the ports alone tells them nothing. -/
theorem Spoke.of_eq {s u : State} (hl : u.line = s.line) (hc : u.centre = s.centre)
    (hh : u.handler = s.handler) : Spoke s u [] [] :=
  ⟨⟨by rw [hl], by rw [hl], by rw [hl], .inl ⟨by rw [hl], by rw [hl]⟩⟩, by rw [hl], by rw [hl],
    by rw [hl], by simp [hl], by rw [hc], by rw [hc], by rw [hc], .refl hc, hh⟩

/-- Two effects in order. -/
theorem Spoke.trans {s u v : State} {o o' : List ReplyItem} {n n' : List NoticeBody}
    (h : Spoke s u o n) (h' : Spoke u v o' n') : Spoke s v (o ++ o') (n ++ n') :=
  ⟨⟨h'.kept.1.trans h.kept.1, h'.kept.2.1.trans h.kept.2.1, h'.kept.2.2.1.trans h.kept.2.2.1,
      h.kept.2.2.2.trans h'.kept.2.2.2⟩,
    h'.missed.trans h.missed, h'.beats.trans h.beats, h'.rx.trans h.rx,
    by rw [h'.replies, h.replies, List.append_assoc], h'.centreRx.trans h.centreRx,
    h'.centreErrors.trans h.centreErrors, h'.centreReplies.trans h.centreReplies,
    h.notices.trans h'.notices, h'.handler.trans h.handler⟩

/-- What follows an effect may change anything but the ports. -/
theorem Spoke.then_eq {s u v : State} {o : List ReplyItem} {n : List NoticeBody} (h : Spoke s u o n)
    (hl : v.line = u.line) (hc : v.centre = u.centre) (hh : v.handler = u.handler) : Spoke s v o n := by
  simpa using h.trans (.of_eq hl hc hh)

/-- What precedes an effect may change anything but the ports. -/
theorem Spoke.after_eq {s u v : State} {o : List ReplyItem} {n : List NoticeBody} (h : Spoke u v o n)
    (hl : u.line = s.line) (hc : u.centre = s.centre) (hh : u.handler = s.handler) : Spoke s v o n :=
  (Spoke.of_eq hl hc hh).trans h

/-- The count of the REPLY queue is the number of its frames (R154). -/
theorem lineReplyCount_eq (l : Line) : lineReplyCount l = (lineReplies l).length := by
  unfold lineReplyCount lineReplies flightReplies
  cases h : l.inFlight with
  | none => simp
  | some f => cases hi : f.item <;> simp [hi, LineItem.isReply]

/-- A queued notice. -/
theorem queueNotice_spoke (body : NoticeBody) (s : State) : Spoke s (queueNotice body s) [] [body] := by
  obtain ⟨h1, h2, h3, h4⟩ := queueNotice_centre body s
  refine ⟨⟨by simp, by simp, by simp, .inl ⟨by simp, by simp⟩⟩, by simp, by simp, by simp, by simp, h1,
    h2, h4, queueNotice_noticed body s, by simp⟩

/-- A frame placed in the REPLY queue. -/
theorem queueLineReply_spoke (item : ReplyItem) (s : State) :
    Spoke s (queueLineReply item s) [item] [] := by
  refine ⟨⟨by simp, by simp, by simp, queueLineReply_credits item s⟩, by simp, by simp, by simp,
    by simp, by simp, by simp, by simp, .refl (by simp), by simp⟩

/-- The credits stay when a steer is queued, or are refilled. -/
theorem queueSteer_credits (j : Junction) (a : PriorityAction) (n : Nat) (s : State) :
    CreditsKept s (queueSteer j a n s) := by
  simpa [CreditsKept, queueSteer] using startLine_credits
    (s.setLine { s.line with steers := placeSteer (steerOf s j a n) s.line.steers })

/-- The credits stay when a beat is queued, or are refilled. -/
theorem queueBeat_credits (s : State) : CreditsKept s (queueBeat s) := by
  unfold CreditsKept queueBeat
  have := startLine_credits ((s.setTimebase
    { s.timebase with beatSeq := (s.timebase.beatSeq + 1) % 256 }).setLine
    { s.line with
      beat := some { seq := (s.timebase.beatSeq + 1) % 256, losses := 0 }
      missedBeats := if s.line.beat.isSome then bump s.line.missedBeats else s.line.missedBeats })
  simpa using this

/-- A queued steer, which the relation leaves open. -/
theorem queueSteer_spoke (j : Junction) (a : PriorityAction) (n : Nat) (s : State) :
    Spoke s (queueSteer j a n s) [] [] := by
  refine ⟨⟨by simp, by simp, by simp, queueSteer_credits j a n s⟩, by simp, by simp, by simp,
    by simp, by simp, by simp, by simp, .refl (by simp), by simp⟩

/-! ### Entries that leave the priority list (R131, R136) -/

/-- An entry that leaves: its frame, if there is a place for it, and its notice. -/
theorem removeEntry_spoke (e : PriorityEntry) (o : CallOutcome) (s : State) :
    Spoke s (removeEntry e o s) (outcomesPlaced o [e] (lineReplyCount s.line))
      (outcomeNotices o [e] (lineReplyCount s.line)) := by
  unfold removeEntry
  set s1 := s.setPriority
    { s.priority with list := s.priority.list.filter fun x => !hasKey e.junction e.tag x } with h1
  have hs : Spoke s s1 [] [] := .of_eq rfl rfl rfl
  have hcount : lineReplyCount s1.line = lineReplyCount s.line := rfl
  have hsend : Spoke s1 (sendOutcome e o s1) (outcomesPlaced o [e] (lineReplyCount s.line)) [] := by
    unfold sendOutcome outcomesPlaced outcomeFrame
    cases hsrc : e.source with
    | centre => simpa [hsrc] using Spoke.of_eq (s := s1) rfl rfl rfl
    | station a =>
      simp only [hcount]
      split
      · next hlt =>
        simp only [List.filterMap_cons, hsrc, List.filterMap_nil]
        rw [List.take_of_length_le (by simp; omega)]
        exact queueLineReply_spoke _ _
      · next hlt =>
        have : Config.lineReplyPlaces - lineReplyCount s.line = 0 := by omega
        simpa [this] using Spoke.of_eq (s := s1) rfl rfl rfl
  have hplaced : outcomePlaced e s =
      ((outcomeFrame o e).isSome && decide (lineReplyCount s.line < Config.lineReplyPlaces)) := by
    unfold outcomePlaced outcomeFrame
    cases e.source <;> simp
  have := (hs.trans hsend).trans (queueNotice_spoke (.priorityOutcome e.junction e.direction e.tag o
    e.source (outcomePlaced e s)) (sendOutcome e o s1))
  simpa [outcomeNotices, hplaced] using this

/-- The REPLY queue after an entry has left. -/
theorem removeEntry_count (e : PriorityEntry) (o : CallOutcome) (s : State) :
    lineReplyCount (removeEntry e o s).line = lineReplyCount s.line +
      ((outcomeFrame o e).isSome && decide (lineReplyCount s.line < Config.lineReplyPlaces)).toNat := by
  rw [lineReplyCount_eq, (removeEntry_spoke e o s).replies, List.length_append, ← lineReplyCount_eq]
  congr 1
  unfold outcomesPlaced
  cases h : outcomeFrame o e with
  | none => simp [h]
  | some f =>
    simp only [h, List.filterMap_cons, List.filterMap_nil, Option.isSome_some, Bool.true_and]
    by_cases hlt : lineReplyCount s.line < Config.lineReplyPlaces
    · rw [List.take_of_length_le (by simp; omega)]; simp [hlt]
    · have : Config.lineReplyPlaces - lineReplyCount s.line = 0 := by omega
      simp [this, hlt]

/-- Entries that leave in order: their frames as far as there are places, and their notices. -/
theorem removeAll_spoke (o : CallOutcome) (es : List PriorityEntry) (s : State) :
    Spoke s (removeAll o es s) (outcomesPlaced o es (lineReplyCount s.line))
      (outcomeNotices o es (lineReplyCount s.line)) := by
  induction es generalizing s with
  | nil => simpa [outcomesPlaced, outcomeNotices, removeAll] using Spoke.of_eq (s := s) rfl rfl rfl
  | cons e rest ih =>
    have h := (removeEntry_spoke e o s).trans (ih (removeEntry e o s))
    rw [removeEntry_count] at h
    have h1 : outcomesPlaced o (e :: rest) (lineReplyCount s.line) =
        outcomesPlaced o [e] (lineReplyCount s.line) ++ outcomesPlaced o rest
          (lineReplyCount s.line +
            ((outcomeFrame o e).isSome &&
              decide (lineReplyCount s.line < Config.lineReplyPlaces)).toNat) := by
      unfold outcomesPlaced
      cases hf : outcomeFrame o e with
      | none => simp [hf]
      | some f =>
        simp only [hf, List.filterMap_cons, List.filterMap_nil, Option.isSome_some, Bool.true_and]
        by_cases hlt : lineReplyCount s.line < Config.lineReplyPlaces
        · obtain ⟨m, hm⟩ : ∃ m, Config.lineReplyPlaces - lineReplyCount s.line = m + 1 :=
            ⟨Config.lineReplyPlaces - lineReplyCount s.line - 1, by omega⟩
          have hm' : Config.lineReplyPlaces - (lineReplyCount s.line + 1) = m := by omega
          simp [hm, hlt, hm']
        · have h0 : Config.lineReplyPlaces - lineReplyCount s.line = 0 := by omega
          simp [h0, hlt]
    rw [h1]
    simpa [outcomeNotices, removeAll] using h

/-- The picked entries are dropped in list order. -/
theorem dropEntries_spoke (picks : PriorityEntry → Bool) (r : DropReason) (s : State) :
    Spoke s (dropEntries picks r s)
      (outcomesPlaced (.dropped r) (s.priority.list.filter picks) (lineReplyCount s.line))
      (outcomeNotices (.dropped r) (s.priority.list.filter picks) (lineReplyCount s.line)) :=
  removeAll_spoke _ _ _

/-- No steer is touched when an entry leaves. -/
@[simp] theorem removeEntry_steers (e : PriorityEntry) (o : CallOutcome) (s : State) :
    lineSteers (removeEntry e o s).line = lineSteers s.line := by
  simp only [removeEntry, queueNotice_frame, sendOutcome]
  split
  · simp
  · split <;> simp

/-- No steer is touched when entries leave. -/
@[simp] theorem removeAll_steers (o : CallOutcome) (es : List PriorityEntry) (s : State) :
    lineSteers (removeAll o es s).line = lineSteers s.line := by
  induction es generalizing s with
  | nil => rfl
  | cons e rest ih => simp [removeAll, ih]

/-- No steer is touched when entries are dropped. -/
@[simp] theorem dropEntries_steers (picks : PriorityEntry → Bool) (r : DropReason) (s : State) :
    lineSteers (dropEntries picks r s).line = lineSteers s.line := removeAll_steers _ _ _

/-! ### The list after entries have left -/

/-- The list without the entry's key. -/
@[simp] theorem removeEntry_priority (e : PriorityEntry) (o : CallOutcome) (s : State) :
    (removeEntry e o s).priority =
      { s.priority with list := s.priority.list.filter fun x => !hasKey e.junction e.tag x } := by
  simp [removeEntry]

/-- The list without the keys of the entries. -/
theorem removeAll_priority (o : CallOutcome) (es : List PriorityEntry) (s : State) :
    (removeAll o es s).priority =
      { s.priority with
        list := s.priority.list.filter fun x => !(es.any fun e => hasKey e.junction e.tag x) } := by
  induction es generalizing s with
  | nil => simp [removeAll]
  | cons e rest ih =>
    simp only [removeAll, ih, removeEntry_priority, List.filter_filter, List.any_cons]
    congr 1
    apply List.filter_congr
    intro x _
    cases hasKey e.junction e.tag x <;> simp

/-- Where keys are unique, dropping leaves the entries that the condition does not pick. -/
theorem dropEntries_priority {s : State} (picks : PriorityEntry → Bool) (r : DropReason)
    (h : (s.priority.list.map fun e => (e.junction, e.tag)).Nodup) :
    (dropEntries picks r s).priority =
      { s.priority with list := s.priority.list.filter fun e => !picks e } := by
  unfold dropEntries
  rw [removeAll_priority]
  refine congrArg (fun l => ({ s.priority with list := l } : Priority)) (List.filter_congr ?_)
  intro x hx
  have : (s.priority.list.filter picks).any (fun e => hasKey e.junction e.tag x) = picks x := by
    rw [Bool.eq_iff_iff, List.any_eq_true]
    constructor
    · rintro ⟨e, he, hk⟩
      rw [List.mem_filter] at he
      simp only [hasKey, Bool.and_eq_true, decide_eq_true_eq] at hk
      have := List.inj_on_of_nodup_map h he.1 hx (by simp [hk.1, hk.2])
      rw [← this]; exact he.2
    · intro hp
      exact ⟨x, List.mem_filter.2 ⟨hx, hp⟩, by simp [hasKey]⟩
  rw [this]

/-- Where the condition depends on the key alone, dropping leaves what it does not pick. -/
theorem dropEntries_priority_key {s : State} (picks : PriorityEntry → Bool) (r : DropReason)
    (h : ∀ e x : PriorityEntry, e.junction = x.junction → e.tag = x.tag → picks e = picks x) :
    (dropEntries picks r s).priority =
      { s.priority with list := s.priority.list.filter fun e => !picks e } := by
  unfold dropEntries
  rw [removeAll_priority]
  refine congrArg (fun l => ({ s.priority with list := l } : Priority)) (List.filter_congr ?_)
  intro x hx
  have : (s.priority.list.filter picks).any (fun e => hasKey e.junction e.tag x) = picks x := by
    rw [Bool.eq_iff_iff, List.any_eq_true]
    constructor
    · rintro ⟨e, he, hk⟩
      rw [List.mem_filter] at he
      simp only [hasKey, Bool.and_eq_true, decide_eq_true_eq] at hk
      rw [h x e hk.1 hk.2]; exact he.2
    · intro hp
      exact ⟨x, List.mem_filter.2 ⟨hx, hp⟩, by simp [hasKey]⟩
  rw [this]

/-! ### The effects on one link-direction (R97, R116) -/

/-- A level that changes tells the ports nothing. -/
theorem setLevel_spoke (d : Direction) (k : LinkIndex) (v : Nat) (s : State) :
    Spoke s (setLevel d k v s) [] [] := .of_eq (by simp) (by simp) (by simp)

/-- The spill state of a link-direction after it is written. -/
theorem writeSpill_gate (d : Direction) (k : LinkIndex) (v : Spill) (s : State) :
    (writeSpill d k v s).gate =
      match d with
      | .inbound => { s.gate with inbound := s.gate.inbound.set k.val v k.isLt }
      | .outbound => { s.gate with outbound := s.gate.outbound.set k.val v k.isLt } := by
  cases d <;> simp [writeSpill]

/-- Setting a spill state writes it, whatever it says of it. -/
@[simp] theorem setSpill_gate (d : Direction) (k : LinkIndex) (v : Spill) (j : Nat) (r : SpillReason)
    (s : State) : (setSpill d k v j r s).gate = (writeSpill d k v s).gate := by
  unfold setSpill
  split <;> simp

/-- A change of a spill state queues one notice, and nothing else is told (R116). -/
theorem setSpill_spoke (d : Direction) (k : LinkIndex) (v : Spill) (j : Nat) (r : SpillReason)
    (s : State) :
    Spoke s (setSpill d k v j r s) [] (spillNotice d k (spillOf s.gate d k) v j r) := by
  unfold setSpill spillNotice
  split
  · exact .of_eq (by cases d <;> simp [writeSpill]) (by cases d <;> simp [writeSpill])
      (by cases d <;> simp [writeSpill])
  · have h1 : Spoke s (writeSpill d k v s) [] [] :=
      .of_eq (by cases d <;> simp [writeSpill]) (by cases d <;> simp [writeSpill])
        (by cases d <;> simp [writeSpill])
    exact ((h1.trans (queueNotice_spoke _ _)).trans
      (.of_eq (s := queueNotice _ _) (by simp) (by simp) (by simp)))

/-- No steer is touched when a spill state is set. -/
@[simp] theorem setSpill_steers (d : Direction) (k : LinkIndex) (v : Spill) (j : Nat) (r : SpillReason)
    (s : State) : lineSteers (setSpill d k v j r s).line = lineSteers s.line := by simp

/-- A cause is raised by a change of a spill state alone (R116). -/
@[simp] theorem setSpill_causeRaised (d : Direction) (k : LinkIndex) (v : Spill) (j : Nat)
    (r : SpillReason) (s : State) :
    (setSpill d k v j r s).causeRaised =
      (s.causeRaised || decide ((spillOf s.gate d k).isSet ≠ v.isSet)) := by
  unfold setSpill
  split <;> rename_i h <;> cases d <;> simp [writeSpill, raiseCause, h]

/-! ### The stop of coordination (R56, R57, R161) -/

/-- Emptying the STEER queue tells the ports nothing but the loss of its steers. -/
theorem emptySteers_spoke (s : State) : Spoke s (emptySteers s) [] [] := by
  refine ⟨⟨by simp [emptySteers], by simp [emptySteers], by simp [emptySteers],
    .inl ⟨by simp [emptySteers], by simp [emptySteers]⟩⟩, by simp [emptySteers], ?_,
    by simp [emptySteers], ?_, by simp, by simp, by simp, .refl (by simp), by simp⟩ <;>
    (cases hf : s.line.inFlight with
     | none => simp [emptySteers, hf, lineBeats, lineReplies, flightBeats, flightReplies]
     | some f => cases hi : f.item <;>
        simp [emptySteers, hf, hi, lineBeats, lineReplies, flightBeats, flightReplies])

/-- After the STEER queue has been emptied a steer in flight is the only one. -/
@[simp] theorem emptySteers_steers (s : State) : lineSteers (emptySteers s).line = flightSteers s.line := by
  cases hf : s.line.inFlight with
  | none => simp [emptySteers, hf, lineSteers, flightSteers]
  | some f => cases hi : f.item <;> simp [emptySteers, hf, hi, lineSteers, flightSteers]

/-- The stop of coordination drops every entry, with its frame and notice, and keeps no waiting steer. -/
theorem stopCoordination_spoke (r : DropReason) (s : State) :
    Spoke s (stopCoordination r s)
      (outcomesPlaced (.dropped r) s.priority.list (lineReplyCount s.line))
      (outcomeNotices (.dropped r) s.priority.list (lineReplyCount s.line)) := by
  unfold stopCoordination
  set s2 := ((s.setTimebase (heldTimebase s.timebase)).setCycles heldCycles).setDue
    { Due.nothing with periodEnd :=
        ((s.setTimebase (heldTimebase s.timebase)).setCycles heldCycles).due.periodEnd } with h2
  have e0 : Spoke s s2 [] [] := .of_eq rfl rfl rfl
  have e1 := e0.trans (emptySteers_spoke s2)
  have e2 := e1.trans (dropEntries_spoke (fun _ => true) r (emptySteers s2))
  have hc : lineReplyCount (emptySteers s2).line = lineReplyCount s.line := by
    rw [lineReplyCount_eq, e1.replies, lineReplyCount_eq]; simp
  have hp : (emptySteers s2).priority.list.filter (fun _ => true) = s.priority.list := by
    simp [h2]
  rw [hc, hp] at e2
  simpa using e2.trans (.of_eq (s := dropEntries _ r (emptySteers s2)) (by simp [h2]) (by simp [h2])
    (by simp [h2]))

/-- After the stop of coordination a steer in flight is the only one. -/
@[simp] theorem stopCoordination_steers (r : DropReason) (s : State) :
    lineSteers (stopCoordination r s).line = flightSteers s.line := by
  simp [stopCoordination]

/-- After the stop of coordination the priority list is empty. -/
@[simp] theorem stopCoordination_priority (r : DropReason) (s : State) :
    (stopCoordination r s).priority = { s.priority with list := [] } := by
  simp [stopCoordination, dropEntries_priority_key]

/-- The entry into ENTERING queues its notice (R53). -/
theorem enterEntering_spoke (p : Nat) (s : State) :
    Spoke s (enterEntering p s) [] [.modeChanged .hold .entering p] := by
  unfold enterEntering
  set s2 := (s.setTimebase { s.timebase with mode := .entering, entry := p }).setSelector
    { s.selector with
      liveBias := installedBias (s.setTimebase { s.timebase with mode := .entering, entry := p }) p }
  have h := (queueNotice_spoke (.modeChanged .hold .entering p) s2).after_eq (s := s) rfl rfl rfl
  refine h.then_eq ?_ ?_ ?_ <;> simp [s2]

/-! ### The arrival of causes (R28, R30, R45, R47) -/

/-- A snapshot reads the store, the gate, the selector, the demand and the roster alone (R31). -/
theorem takeSnapshot_congr {s u : State} (p : Nat) (role : PlanRole) (h1 : u.store = s.store)
    (h2 : u.gate = s.gate) (h3 : u.selector = s.selector) (h4 : u.demand = s.demand)
    (h5 : u.roster = s.roster) : takeSnapshot u p role = takeSnapshot s p role := by
  simp [takeSnapshot, junctionCount, installedBias, h1, h2, h3, h4, h5]

/-- The computing plan is read off the Timebase (R29). -/
theorem computingRole_congr {s u : State} (h : u.timebase = s.timebase) :
    computingRole u = computingRole s := by
  simp [computingRole, h]

/-- The id of the computing plan is read off the Timebase (R29). -/
theorem computingPlan_congr {s u : State} (h : u.timebase = s.timebase) :
    computingPlan u = computingPlan s := by
  simp [computingPlan, computingRole_congr h]

/-- Outside HOLD there is a computing plan (R29). -/
theorem computingRole_some {s : State} (h : s.timebase.mode ≠ .hold) :
    ∃ p role, computingRole s = some (p, role) := by
  unfold computingRole
  cases hm : s.timebase.mode with
  | hold => exact absurd hm h
  | entering => exact ⟨_, _, rfl⟩
  | run => by_cases hp : s.timebase.pendingPlan = 0 <;> simp [hp]

/-- A computation started takes the snapshot of the state it starts in. -/
theorem startComputation_engine {s : State} {p : Nat} {role : PlanRole}
    (h : computingRole s = some (p, role)) :
    (startComputation s).engine =
      { s.engine with computing := some (takeSnapshot s p role), again := false, void := false } := by
  simp [startComputation, h]

/-- The end of an event that raised a cause. -/
theorem settle_cause {s s1 : State} (h : s1.causeRaised = true) (he : s1.engine = s.engine) :
    CauseArrived s (settle s1) := by
  have hs : (settle s1).timebase = s1.timebase := by simp
  unfold CauseArrived
  rw [hs]
  have hset : settle s1 = arriveCause (s1.setCauseRaised false) := by simp [settle, h]
  cases hm : s1.timebase.mode with
  | hold => simp [hset, arriveCause, hm, he]
  | _ =>
    obtain ⟨p, role, hr⟩ := computingRole_some (s := s1) (by simp [hm])
    cases hc : s.engine.computing with
    | some x => simp [hset, arriveCause, hm, he, hc]
    | none =>
      refine ⟨p, role, by rw [computingRole_congr hs]; exact hr, ?_⟩
      rw [takeSnapshot_congr (s := s1) (u := settle s1) p role (by simp) (by simp) (by simp)
        (by simp) (by simp)]
      have hr' : computingRole (s1.setCauseRaised false) = some (p, role) := hr
      have hstart : settle s1 = startComputation (s1.setCauseRaised false) := by
        simp [hset, arriveCause, hm, he, hc]
      rw [hstart, startComputation_engine hr', setCauseRaised_engine, he]
      congr 1

/-- The end of an event, whether it raised a cause or not. -/
theorem settle_causeIf {s s1 : State} {raised : Prop} (h : s1.causeRaised = true ↔ raised)
    (he : s1.engine = s.engine) : CauseArrivedIf raised s (settle s1) := by
  refine ⟨fun hr => settle_cause (h.2 hr) he, fun hr => ?_⟩
  have : s1.causeRaised = false := by simpa using fun hc => hr (h.1 hc)
  rw [settle_rest this, he]

/-- A pending plan set, replaced or cleared in RUN by one that changes the computing plan. -/
theorem settle_setPendingPlan {s s1 : State} {p : Nat} (hm : s1.timebase.mode = .run)
    (he : s1.engine = s.engine)
    (hp : computingPlan (s1.setTimebase { s1.timebase with pendingPlan := p }) ≠ computingPlan s1) :
    PendingChanged s (settle (setPendingPlan p s1)) := by
  have hc1 : (setPendingPlan p s1).causeRaised = true := by
    simp [setPendingPlan, raiseCauseIf, raiseCause, hm]
  have heng : (setPendingPlan p s1).engine =
      { s.engine with
        pendingSet := none, void := s.engine.void || s.engine.computing.isSome } := by
    simp [setPendingPlan, he, hp]
  have htb : (setPendingPlan p s1).timebase = { s1.timebase with pendingPlan := p } := by
    simp [setPendingPlan]
  have h := settle_cause (s := setPendingPlan p s1) hc1 rfl
  have hmode : (settle (setPendingPlan p s1)).timebase.mode = .run := by simp [htb, hm]
  unfold CauseArrived at h
  rw [hmode, heng] at h
  unfold PendingChanged
  cases hc : s.engine.computing with
  | some x => simpa [hc] using h
  | none => simpa [hc] using h

end Sys2Proof.Machine
end

