-- ==== Sys2Proof/Laws/Events.lean ====
section
/-! SUPPORT. What the tests in the meanings of the events say, each once: which frame the line takes and
which fault its characters show (R152, R153), and what a reset does to the retained memory (R23). -/

namespace Sys2Proof.Machine

open Sys2Proof

/-- Outside a reset an event acts (R170). -/
theorem whenRunning_running {s : State} (act : State → State) (h : s.inReset = false) :
    whenRunning act s = act s := by
  simp [whenRunning, h]

/-! ### Reception (R152, R153) -/

/-- The unit's line address lies below 32 (R160). -/
theorem unitAddress_lt (s : State) : unitAddress s < 32 := by
  unfold unitAddress
  cases s.straps.addrHi <;> cases s.straps.addrLo <;> simp [strapLevel]

/-- The first character names a station exactly when it is the station's address character. -/
theorem namesStation_iff (dest : Byte) {address : Nat} (h : address < 32) :
    namesStation dest address = true ↔ dest = addressChar address := by
  have all : ∀ a : Fin 32, ∀ d : Byte, namesStation d a.val = true ↔ d = addressChar a.val := by
    decide +kernel
  exact all ⟨address, h⟩ dest

/-- The characters are the unit's own exactly when they begin the frame in flight. -/
theorem sendsItself_iff (s : State) (chars : List Byte) :
    sendsItself s chars = true ↔ OwnFrame s chars := by
  unfold sendsItself OwnFrame
  cases s.line.inFlight <;> simp

/-- What the unit takes from the line. -/
theorem takesFrame_iff (s : State) (chars : List Byte) : takesFrame s chars = true ↔ Takes s chars := by
  simp only [takesFrame, Takes, Bool.and_eq_true, Bool.not_eq_true', ← sendsItself_iff,
    Bool.not_eq_true]
  apply and_congr_left'
  cases chars with
  | nil => simp [namesUnit]
  | cons d rest => simp [namesUnit, namesStation_iff d (unitAddress_lt s)]

/-- Which faults stand. -/
theorem faultStands_iff (fault : RxFault) (chars : List Byte) (queued : Nat) :
    faultStands fault chars queued = true ↔ FaultShown chars queued fault := by
  cases fault <;> cases h : assemble chars <;> simp [faultStands, FaultShown, h, Config.rxPlaces]
  exact decide_eq_true_iff

/-- A raised fault is counted once. -/
theorem RxCounters.raise_counted (c : RxCounters) (fault : RxFault) : c.raise fault = counted c fault := by
  cases fault <;> rfl

/-! ### What is due (log 2) -/

theorem closeDue_iff (c : LocalCycle) : closeDue c = true ↔ WindowAtEnd c := by
  simp [closeDue, WindowAtEnd, and_assoc]

theorem lapseDue_iff (s : State) : lapseDue s = true ↔ LapseReached s := by
  simp only [lapseDue, LapseReached, Bool.and_eq_true, Bool.or_eq_true, decide_eq_true_eq,
    Option.isSome_iff_ne_none]
  exact and_comm

theorem evaluationDue_iff (s : State) :
    evaluationDue s = true ↔ s.timebase.mode = .run ∧ s.selector.evalTimer = some 0 := by
  simp [evaluationDue]

theorem expired_iff (s : State) (e : PriorityEntry) : expired s e = true ↔ EntryAtExpiry s e := by
  rw [expired, decide_eq_true_iff]
  unfold timeAhead EntryAtExpiry Config.clockModulus
  dsimp only
  generalize (e.expiry + 4294967296 - s.priority.clock) % 4294967296 = d
  by_cases h : d < 4294967296 / 2
  · rw [if_pos h]; omega
  · rw [if_neg h]; omega

/-- A tick waits exactly while an event of the present ds stands. -/
theorem somethingDue_iff (s : State) : somethingDue s = true ↔ EventStands s := by
  have every : ∀ j : Junction, j ∈ allJunctions := by decide
  simp only [somethingDue, EventStands, Bool.or_eq_true, Bool.and_eq_true, List.any_eq_true,
    decide_eq_true_eq, closeDue_iff, lapseDue_iff, evaluationDue_iff, expired_iff, liveJunctions,
    List.mem_filter, every, true_and, or_assoc]

/-! ### Retained memory at a reset (R23) -/

/-- A plan whose state record is not torn by an erase is kept as it stands. -/
theorem RetainedPlan.atReset_kept {k : RetainedPlan} (h : k.stateTorn ≠ some .erase) : k.atReset = k := by
  simp [RetainedPlan.atReset, h]

/-- What an erase write tears: the state record alone, with erase values in the head and the groups. -/
@[simp] theorem RetainedPlan.tearErase_fields (k : RetainedPlan) :
    k.tearErase.stateTorn = some .erase ∧ k.tearErase.headTorn = k.headTorn ∧
    k.tearErase.groupTorn = k.groupTorn ∧ k.tearErase.eraseMark = k.eraseMark ∧
    k.tearErase.record = { k.record with head := .erased, entries := erasedEntries } :=
  ⟨rfl, rfl, rfl, rfl, rfl⟩

/-- What a reset makes of a retained plan whose state record stands torn by an erase. -/
theorem RetainedPlan.atReset_erased {k : RetainedPlan} (h : k.stateTorn = some .erase) :
    k.atReset = { k with record := { k.record with head := .erased, entries := erasedEntries } } := by
  simp [RetainedPlan.atReset, RetainedPlan.eraseFields, h]

/-- A torn erase stands the same at every further reset. -/
theorem RetainedPlan.tearErase_again (k : RetainedPlan) : k.tearErase.atReset = k.tearErase := by
  rw [RetainedPlan.atReset_erased rfl]
  rfl

/-- Without a write in progress a reset leaves the retained memory as it is where no state record stands
torn by an erase. -/
theorem tearWrite_none {r : Retained} (h : ∀ p : Fin 24, r.plans[p].stateTorn ≠ some .erase) :
    tearWrite r none = r := by
  have hp : (Vector.ofFn fun p : Fin 24 => r.plans[p].atReset) = r.plans := by
    apply Vector.ext
    intro i hi
    rw [Vector.getElem_ofFn]
    exact RetainedPlan.atReset_kept (h ⟨i, hi⟩)
  show { r with plans := Vector.ofFn fun p : Fin 24 => r.plans[p].atReset } = r
  rw [hp]

/-- The plans that a reset keeps: what the torn write left of each, and what stands torn by an erase torn
again. -/
theorem tearWrite_plans (r : Retained) (writing : Option RetentionRecord) (p : Fin 24) :
    (tearWrite r writing).plans[p] =
      ((match writing with
        | none => r
        | some record => tearRecord r record).plans[p]).atReset := by
  simp only [tearWrite]
  exact Vector.getElem_ofFn p.isLt

end Sys2Proof.Machine
end

