-- ==== Sys2Proof/Laws/PerInstr.lean ====
section
/-! SUPPORT. What holds of every command as syntax, one lemma for each: the operands of a well-formed
command lie in the ranges that their places have. -/

namespace Sys2Proof.Laws

open Sys2Proof

/-- The junction index that a command names, if it names one. -/
def junctionOperand : Instr → Option Nat
  | .localZero j => some j
  | .windowClose j => some j
  | .priorityExpiry j _ => some j
  | _ => none

/-- The vehicle tag that a command names, if it names one. -/
def tagOperand : Instr → Option Nat
  | .priorityExpiry _ tag => some tag
  | _ => none

/-- The characters that a command brings, none for most. -/
def broughtChars : Instr → List Byte
  | .lineFree chars => chars
  | .lineFrameReceived chars => chars
  | .centreFrameReceived chars => chars
  | .lineFrameDiscarded _ chars => chars
  | .centreFrameDiscarded _ chars => chars
  | _ => []

/-- A well-formed command names a junction record that exists (R60), a vehicle tag of 1..65535 (R124),
and brings no more characters than a frame has (R159). -/
def OperandsBounded.Statement (i : Instr) : Prop :=
  i.wellFormed = true →
    (∀ j, junctionOperand i = some j → j < 12) ∧
    (∀ tag, tagOperand i = some tag → 1 ≤ tag ∧ tag ≤ 65535) ∧
    (broughtChars i).length ≤ maxFrameChars

theorem OperandsBounded.report : OperandsBounded.Statement .report := by
  simp [OperandsBounded.Statement, junctionOperand, tagOperand, broughtChars]

theorem OperandsBounded.priorityCall : OperandsBounded.Statement .priorityCall := by
  simp [OperandsBounded.Statement, junctionOperand, tagOperand, broughtChars]

theorem OperandsBounded.priorityCancel : OperandsBounded.Statement .priorityCancel := by
  simp [OperandsBounded.Statement, junctionOperand, tagOperand, broughtChars]

theorem OperandsBounded.readStatus : OperandsBounded.Statement .readStatus := by
  simp [OperandsBounded.Statement, junctionOperand, tagOperand, broughtChars]

theorem OperandsBounded.readJunction : OperandsBounded.Statement .readJunction := by
  simp [OperandsBounded.Statement, junctionOperand, tagOperand, broughtChars]

theorem OperandsBounded.readBand : OperandsBounded.Statement .readBand := by
  simp [OperandsBounded.Statement, junctionOperand, tagOperand, broughtChars]

theorem OperandsBounded.readPlanHead : OperandsBounded.Statement .readPlanHead := by
  simp [OperandsBounded.Statement, junctionOperand, tagOperand, broughtChars]

theorem OperandsBounded.readPlanGroup : OperandsBounded.Statement .readPlanGroup := by
  simp [OperandsBounded.Statement, junctionOperand, tagOperand, broughtChars]

theorem OperandsBounded.writePlanHead : OperandsBounded.Statement .writePlanHead := by
  simp [OperandsBounded.Statement, junctionOperand, tagOperand, broughtChars]

theorem OperandsBounded.writePlanGroup : OperandsBounded.Statement .writePlanGroup := by
  simp [OperandsBounded.Statement, junctionOperand, tagOperand, broughtChars]

theorem OperandsBounded.erasePlan : OperandsBounded.Statement .erasePlan := by
  simp [OperandsBounded.Statement, junctionOperand, tagOperand, broughtChars]

theorem OperandsBounded.checkPlan : OperandsBounded.Statement .checkPlan := by
  simp [OperandsBounded.Statement, junctionOperand, tagOperand, broughtChars]

theorem OperandsBounded.readGeometryHead : OperandsBounded.Statement .readGeometryHead := by
  simp [OperandsBounded.Statement, junctionOperand, tagOperand, broughtChars]

theorem OperandsBounded.readGeometryGroup : OperandsBounded.Statement .readGeometryGroup := by
  simp [OperandsBounded.Statement, junctionOperand, tagOperand, broughtChars]

theorem OperandsBounded.writeGeometryHead : OperandsBounded.Statement .writeGeometryHead := by
  simp [OperandsBounded.Statement, junctionOperand, tagOperand, broughtChars]

theorem OperandsBounded.writeGeometryGroup : OperandsBounded.Statement .writeGeometryGroup := by
  simp [OperandsBounded.Statement, junctionOperand, tagOperand, broughtChars]

theorem OperandsBounded.checkGeometry : OperandsBounded.Statement .checkGeometry := by
  simp [OperandsBounded.Statement, junctionOperand, tagOperand, broughtChars]

theorem OperandsBounded.readSelection : OperandsBounded.Statement .readSelection := by
  simp [OperandsBounded.Statement, junctionOperand, tagOperand, broughtChars]

theorem OperandsBounded.writeSelection : OperandsBounded.Statement .writeSelection := by
  simp [OperandsBounded.Statement, junctionOperand, tagOperand, broughtChars]

theorem OperandsBounded.pinPlan : OperandsBounded.Statement .pinPlan := by
  simp [OperandsBounded.Statement, junctionOperand, tagOperand, broughtChars]

theorem OperandsBounded.pinBias : OperandsBounded.Statement .pinBias := by
  simp [OperandsBounded.Statement, junctionOperand, tagOperand, broughtChars]

theorem OperandsBounded.releaseHold : OperandsBounded.Statement .releaseHold := by
  simp [OperandsBounded.Statement, junctionOperand, tagOperand, broughtChars]

theorem OperandsBounded.enterHold : OperandsBounded.Statement .enterHold := by
  simp [OperandsBounded.Statement, junctionOperand, tagOperand, broughtChars]

theorem OperandsBounded.resetUnit : OperandsBounded.Statement .resetUnit := by
  simp [OperandsBounded.Statement, junctionOperand, tagOperand, broughtChars]

theorem OperandsBounded.resetEngine : OperandsBounded.Statement .resetEngine := by
  simp [OperandsBounded.Statement, junctionOperand, tagOperand, broughtChars]

theorem OperandsBounded.unknownKind : OperandsBounded.Statement .unknownKind := by
  simp [OperandsBounded.Statement, junctionOperand, tagOperand, broughtChars]

theorem OperandsBounded.resetNAssert : OperandsBounded.Statement .resetNAssert := by
  simp [OperandsBounded.Statement, junctionOperand, tagOperand, broughtChars]

theorem OperandsBounded.hardwareReset (pins : Straps) :
    OperandsBounded.Statement (.hardwareReset pins) := by
  simp [OperandsBounded.Statement, junctionOperand, tagOperand, broughtChars]

theorem OperandsBounded.resetUnitTakesEffect (pins : Straps) :
    OperandsBounded.Statement (.resetUnitTakesEffect pins) := by
  simp [OperandsBounded.Statement, junctionOperand, tagOperand, broughtChars]

theorem OperandsBounded.cycleBoundary : OperandsBounded.Statement .cycleBoundary := by
  simp [OperandsBounded.Statement, junctionOperand, tagOperand, broughtChars]

theorem OperandsBounded.localZero (j : Nat) :
    OperandsBounded.Statement (.localZero j) := by
  simp [OperandsBounded.Statement, junctionOperand, tagOperand, broughtChars, Instr.wellFormed]

theorem OperandsBounded.windowClose (j : Nat) :
    OperandsBounded.Statement (.windowClose j) := by
  simp [OperandsBounded.Statement, junctionOperand, tagOperand, broughtChars, Instr.wellFormed]

theorem OperandsBounded.beatDue : OperandsBounded.Statement .beatDue := by
  simp [OperandsBounded.Statement, junctionOperand, tagOperand, broughtChars]

theorem OperandsBounded.evaluation : OperandsBounded.Statement .evaluation := by
  simp [OperandsBounded.Statement, junctionOperand, tagOperand, broughtChars]

theorem OperandsBounded.pinLapse : OperandsBounded.Statement .pinLapse := by
  simp [OperandsBounded.Statement, junctionOperand, tagOperand, broughtChars]

theorem OperandsBounded.periodEnd : OperandsBounded.Statement .periodEnd := by
  simp [OperandsBounded.Statement, junctionOperand, tagOperand, broughtChars]

theorem OperandsBounded.priorityExpiry (j tag : Nat) :
    OperandsBounded.Statement (.priorityExpiry j tag) := by
  simp [OperandsBounded.Statement, junctionOperand, tagOperand, broughtChars, Instr.wellFormed]
  omega

theorem OperandsBounded.retentionComplete : OperandsBounded.Statement .retentionComplete := by
  simp [OperandsBounded.Statement, junctionOperand, tagOperand, broughtChars]

theorem OperandsBounded.computationComplete : OperandsBounded.Statement .computationComplete := by
  simp [OperandsBounded.Statement, junctionOperand, tagOperand, broughtChars]

theorem OperandsBounded.lineBusy : OperandsBounded.Statement .lineBusy := by
  simp [OperandsBounded.Statement, junctionOperand, tagOperand, broughtChars]

theorem OperandsBounded.lineFree (partialRx : List Byte) :
    OperandsBounded.Statement (.lineFree partialRx) := by
  simp [OperandsBounded.Statement, junctionOperand, tagOperand, broughtChars, Instr.wellFormed]
  omega

theorem OperandsBounded.lineFault : OperandsBounded.Statement .lineFault := by
  simp [OperandsBounded.Statement, junctionOperand, tagOperand, broughtChars]

theorem OperandsBounded.frameComplete : OperandsBounded.Statement .frameComplete := by
  simp [OperandsBounded.Statement, junctionOperand, tagOperand, broughtChars]

theorem OperandsBounded.arbitrationLoss : OperandsBounded.Statement .arbitrationLoss := by
  simp [OperandsBounded.Statement, junctionOperand, tagOperand, broughtChars]

theorem OperandsBounded.lineFrameReceived (chars : List Byte) :
    OperandsBounded.Statement (.lineFrameReceived chars) := by
  simp [OperandsBounded.Statement, junctionOperand, tagOperand, broughtChars, Instr.wellFormed,
    wholeFrameLength]

theorem OperandsBounded.centreFrameReceived (chars : List Byte) :
    OperandsBounded.Statement (.centreFrameReceived chars) := by
  simp [OperandsBounded.Statement, junctionOperand, tagOperand, broughtChars, Instr.wellFormed,
    wholeFrameLength]

theorem OperandsBounded.centreFrameComplete : OperandsBounded.Statement .centreFrameComplete := by
  simp [OperandsBounded.Statement, junctionOperand, tagOperand, broughtChars]

theorem OperandsBounded.decisecondTick : OperandsBounded.Statement .decisecondTick := by
  simp [OperandsBounded.Statement, junctionOperand, tagOperand, broughtChars]

theorem OperandsBounded.lineFrameDiscarded (fault : RxFault) (chars : List Byte) :
    OperandsBounded.Statement (.lineFrameDiscarded fault chars) := by
  simp [OperandsBounded.Statement, junctionOperand, tagOperand, broughtChars, Instr.wellFormed]

theorem OperandsBounded.centreFrameDiscarded (fault : RxFault) (chars : List Byte) :
    OperandsBounded.Statement (.centreFrameDiscarded fault chars) := by
  simp [OperandsBounded.Statement, junctionOperand, tagOperand, broughtChars, Instr.wellFormed]

end Sys2Proof.Laws
end

