-- ==== Sys2Proof/Tests/Slice0.lean ====
section
/-! SUPPORT. The model's own tests. Expected values come from the worked cases and tables of the spec,
each named at its test. After them stands one witness for each statement with hypotheses: concrete
states and operands that meet them, clause by clause. -/

namespace Sys2Proof.Tests

open Sys2Proof Sys2Proof.Machine

-- One theorem at a time: each waiting kernel evaluation would hold a thread of its own.
set_option Elab.async false

/-! ### Small states: the corridor of sections 2.9, 4.8, 5.7, 6.6 and 7.8 -/

/-- The geometry of section 2.9, VALID under stamp 14. -/
def geometry4 : Geometry :=
  { Geometry.blank with
    state := .valid, stamp := 14, head := { GeometryHead.blank with n := 4 }
    entries := ((blankEntries.set 1 { address := 2, position := 600 }).set 2
      { address := 3, position := 1500 }).set 3 { address := 4, position := 2400 } }

/-- The plan head of sections 2.9 and 4.8. -/
def head900 : PlanHead :=
  { PlanHead.erased with
    c := 900, vIn := 50, vOut := 40, biasNominal := 60, biasMin := 30, biasMax := 85, gMin := 100,
    sMin := 150, dwellPct := 20, shortPct := 15, eMax := 100, xMax := 100, lockout := 1
    gatePct := 60 }

/-- An entry with a share and inbound priority. -/
def share (v : Nat) : PlanEntry :=
  { share := v, trim := 0, follow := false, priIn := true, priOut := false }

/-- The plan of section 2.9, READY. -/
def plan900 : PlanRecord :=
  { state := .checked, stamp := 14, fault := .none, head := head900
    entries := (((Vector.replicate 12 (share 0)).set 0 (share 550)).set 1 (share 500)).set 2
      (share 500) |>.set 3 (share 600) }

/-- The set that section 2.9 publishes as generation 58. -/
def set58 : TargetSet :=
  { plan := 5, generation := 58, c := 900, n := 4, bias := 80, bandIn := 390, bandOut := 260
    entries :=
      [{ target := 0, cls := .windowed, g := 495, gEff := 495, constraining := true },
       { target := 418, cls := .windowed, g := 450, gEff := 450, constraining := true },
       { target := 318, cls := .windowed, g := 450, gEff := 450, constraining := true },
       { target := 357, cls := .windowed, g := 540, gEff := 540, constraining := true }] }

/-- A local cycle of plan 5, in step, with its window open at LC 400. -/
def cycle450 : LocalCycle :=
  { LocalCycle.held with
    plan := 5, lc := 400, lcur := 900, windowEnd := 450, windowOpen := true, gEff := 450
    offsetNow := 418, targetUsed := 418 }

/-- A junction that is heard and follows. -/
def linked : RosterEntry := { state := .linked, misses := 0, reports := 0, following := true }

/-- A unit in HOLD that holds the geometry and plans 5 and 9. -/
def holding : State :=
  { State.reset with
    store := { Store.blank with
      geometry := geometry4, plans := (Store.blank.plans.set 4 plan900).set 8 plan900 }
    roster := { Roster.initial 4 with junctions :=
      (((((Roster.initial 4).junctions.set 0 linked).set 1 linked).set 2 linked).set 3 linked) } }

/-- The same unit in ENTERING for plan 5. -/
def entering : State :=
  { holding with timebase := { Timebase.initial with mode := .entering, entry := 5 } }

/-- The corridor of section 2.9 in RUN under plan 5, at clock 10,400 of section 7.8. -/
def corridor : State :=
  { holding with
    timebase := { mode := .run, cc := 418, c := 900, active := 5, pendingPlan := 0, entry := 0,
                  divider := some 5, beatSeq := 9 }
    selector := { Selector.initial with liveBias := 80, evalTimer := some 3000 }
    demand := { Demand.initial with levelIn := (Demand.initial.levelIn.set 1 1).set 2 2 }
    engine := { Engine.initial with generation := 57, active := some set58 }
    cycles := (Vector.replicate 12 LocalCycle.held).set 1 cycle450
    priority := { clock := 10400, list := [] } }

/-- The snapshot of the computation of section 2.9. -/
def snapshot : Snapshot := takeSnapshot corridor 5 .active

/-- The entry that call A of section 7.8 makes. -/
def entryA : PriorityEntry :=
  { junction := 1, direction := .inbound, tag := 371, source := .station 2, due := 10470
    expiry := 11000 }

/-- The corridor with call A listed. -/
def listedA : State := { corridor with priority := { clock := 10400, list := [entryA] } }

/-- The corridor with another record of junction 1. -/
def atCycle (r : LocalCycle) : State := { corridor with cycles := corridor.cycles.set 1 r }

/-- Junction 1's record under call A's extension of section 7.8. -/
def extended (lc : Nat) : LocalCycle :=
  { cycle450 with
    lc, windowEnd := 490, lcur := 940, extension := some { tag := 371, amount := 40 }
    actionTaken := true, lockout := 1 }

/-- The corridor's roster with another entry of junction j. -/
def rosterWith (j : Junction) (r : RosterEntry) : Roster :=
  { corridor.roster with junctions := corridor.roster.junctions.set j.val r j.isLt }

/-- The corridor with a frame in flight on the line. -/
def flying (item : LineItem) (losses : Nat) : State :=
  { corridor with line := { corridor.line with
    inFlight := some { item, losses, orphaned := false, chars := [] } } }

/-- The same unit with its line FREE, and nothing in flight or waiting. -/
def freed (s : State) : State := { s with line := { s.line with state := .free } }

/-- Entry 1 of the table of section 5.8. -/
def table1 : SelectionEntry :=
  { valid := true, plan := 9, low := 300, high := 700, dominance := .inbound, persistence := 2 }

/-- The state with a frame of the centre waiting. -/
def fromCentre (r : Request) (s : State) : State :=
  { s with centre := { s.centre with rx := [r.frame 16 0 7] } }

/-- The frame as the handler takes it. -/
def centreTaken (r : Request) : Taken :=
  { port := .centre, frame := r.frame 16 0 7, sender := .centre }

/-- The state with a frame of the station of junction j waiting, whose address is j + 1. -/
def fromStation (j : Junction) (r : Request) (s : State) : State :=
  { s with line := { s.line with rx := [r.frame 16 (j.val + 1) 3] } }

/-- The frame as the handler takes it. -/
def stationTaken (j : Junction) (r : Request) : Taken :=
  { port := .line, frame := r.frame 16 (j.val + 1) 3, sender := .junction j }

/-- The state after a command; the state itself where it has no next state. -/
def after (c : Instr) (s : State) : State :=
  match exec c s with
  | .next u => u
  | _ => s

/-- The code of the newest reply on the centre link. -/
def lastCode (s : State) : Option ReplyCode := (centreReplies s.centre).getLast?.map Reply.code

/-- The code of the newest reply on the line. -/
def lastLineCode (s : State) : Option ReplyCode :=
  match (lineReplies s.line).getLast? with
  | some (.reply r) => some r.code
  | _ => none

/-- The bodies of the notices held. -/
def noticeBodies (s : State) : List NoticeBody := (centreNotices s.centre).map Notice.body

/-! ### Well-formed commands and requests: an ill-formed one for each check -/

theorem test_wellFormed_smoke :
    [Instr.localZero 12, .windowClose 12, .priorityExpiry 12 1, .priorityExpiry 0 0,
     .priorityExpiry 0 65536, .lineFree (List.replicate 31 0#8),
     .lineFrameReceived (List.replicate 6 0#8), .lineFrameReceived (List.replicate 32 0#8),
     .centreFrameReceived (List.replicate 6 0#8), .lineFrameDiscarded .check (List.replicate 32 0#8),
     .centreFrameDiscarded .check (List.replicate 32 0#8)].all (fun i => !i.wellFormed) = true := by
  decide

theorem test_wellFormed_accepts :
    [Instr.localZero 11, .windowClose 0, .priorityExpiry 11 65535, .lineFree [],
     .lineFrameReceived (List.replicate 7 0#8), .centreFrameReceived (List.replicate 31 0#8),
     .lineFrameDiscarded .framing [], .report].all Instr.wellFormed = true := by
  decide

theorem test_request_wellFormed_smoke :
    [Request.report ⟨65536, 0, 0, 0, true, false, false⟩, .report ⟨0, 65536, 0, 0, true, false, false⟩,
     .report ⟨0, 0, 256, 0, true, false, false⟩, .report ⟨0, 0, 0, 256, true, false, false⟩,
     .priorityCall ⟨256, .inbound, 1, 0⟩, .priorityCall ⟨0, .inbound, 65536, 0⟩,
     .priorityCall ⟨0, .inbound, 1, 65536⟩, .priorityCancel ⟨256, 1⟩, .priorityCancel ⟨0, 65536⟩,
     .readStatus ⟨true, 256⟩, .readJunction ⟨256, 0⟩, .readJunction ⟨0, 256⟩, .readBand 256,
     .readPlanHead ⟨256, 0⟩, .readPlanHead ⟨0, 256⟩, .writePlanHead ⟨256, head900⟩,
     .writePlanHead ⟨1, { head900 with c := 65536 }⟩, .writePlanHead ⟨1, { head900 with eMax := 256 }⟩,
     .readPlanGroup ⟨256, 0, 0⟩, .readPlanGroup ⟨0, 256, 0⟩, .readPlanGroup ⟨0, 0, 256⟩,
     .writePlanGroup ⟨1, 256, Vector.replicate 4 (share 0)⟩,
     .writePlanGroup ⟨1, 0, Vector.replicate 4 (share 65536)⟩,
     .writePlanGroup ⟨1, 0, Vector.replicate 4 { share 0 with trim := -32769 }⟩,
     .writePlanGroup ⟨1, 0, Vector.replicate 4 { share 0 with trim := 32768 }⟩,
     .erasePlan 256, .checkPlan 256, .readGeometryHead 256,
     .writeGeometryHead { GeometryHead.blank with u1 := 65536 },
     .writeGeometryHead { GeometryHead.blank with n := 256 }, .readGeometryGroup ⟨256, 0⟩,
     .writeGeometryGroup ⟨256, Vector.replicate 4 ⟨1, 0⟩⟩,
     .writeGeometryGroup ⟨0, Vector.replicate 4 ⟨256, 0⟩⟩,
     .writeGeometryGroup ⟨0, Vector.replicate 4 ⟨1, 65536⟩⟩, .readSelection ⟨256, 0⟩,
     .writeSelection ⟨256, SelectionEntry.blank⟩,
     .writeSelection ⟨0, { SelectionEntry.blank with low := 65536 }⟩,
     .pinPlan 256, .pinBias 256, .releaseHold 256].all (fun r => !r.wellFormed) = true := by
  decide

/-! ### Frames, written out character by character from section 9.6 -/

/-- Address characters carry the most significant bit in data bit 0. -/
theorem test_address_characters :
    [addressOf 0x01#8, addressOf 0x10#8, addressOf 0x08#8, addressOf 0x1F#8, addressOf 0x00#8] =
      [16, 1, 2, 31, 0] ∧ addressChar 16 = 0x01#8 ∧ addressChar 3 = 0x18#8 ∧
      namesStation 0x21#8 16 = false := by
  decide

/-- PIN_BIAS 80 to address 16 from the centre: the characters sum to 92h. -/
theorem test_frame_pin_bias :
    assemble [0x01#8, 0x00#8, 0x39#8, 0x07#8, 0x01#8, 0x50#8, 0x92#8, 0x00#8] =
      .complete { dest := 0x01#8, src := 0x00#8, kind := 0x39#8, seq := 0x07#8, payload := [0x50#8] } ∧
    kindOf 0x39#8 = some .pinBias ∧ parseRequest .pinBias [0x50#8] = some (.pinBias 80) := by
  decide

/-- One wrong bit in the check word, a length of 25, and a frame that still lacks a character. -/
theorem test_frame_faults :
    assemble [0x01#8, 0x00#8, 0x39#8, 0x07#8, 0x01#8, 0x50#8, 0x93#8, 0x00#8] = .badCheck ∧
    assemble [0x01#8, 0x00#8, 0x39#8, 0x07#8, 0x19#8] = .badLength ∧
    assemble [0x01#8, 0x00#8, 0x39#8, 0x07#8, 0x01#8, 0x50#8, 0x92#8] = .incomplete := by
  decide

/-- Payloads of REPORT, PRIORITY_CALL and PRIORITY_CANCEL. -/
theorem test_payloads_station :
    parseRequest .report [0xA4#8, 0x01#8, 0x64#8, 0x00#8, 0x05#8, 0x09#8, 0x05#8] =
      some (.report ⟨420, 100, 5, 9, true, false, true⟩) ∧
    parseRequest .priorityCall [0x01#8, 0x00#8, 0x73#8, 0x01#8, 0x46#8, 0x00#8] =
      some (.priorityCall ⟨1, .inbound, 371, 70⟩) ∧
    parseRequest .priorityCall [0x01#8, 0x02#8, 0x73#8, 0x01#8, 0x46#8, 0x00#8] = none ∧
    parseRequest .priorityCancel [0x01#8, 0x73#8, 0x01#8] = some (.priorityCancel ⟨1, 371⟩) := by
  decide

/-- Payload of the WRITE_PLAN_GROUP of section 1.7: trim -30 is FFE2h, PRI_IN bit 1, PRI_OUT bit 2. -/
theorem test_payload_plan_group :
    parseRequest .writePlanGroup
      [0x07#8, 0x01#8, 0xF4#8, 0x01#8, 0x28#8, 0x00#8, 0x02#8, 0x52#8, 0x03#8, 0xE2#8, 0xFF#8, 0x06#8,
       0x00#8, 0x00#8, 0x00#8, 0x00#8, 0x00#8, 0x00#8, 0x00#8, 0x00#8, 0x00#8, 0x00#8] =
      some (.writePlanGroup ⟨7, 1,
        #v[⟨500, 40, false, true, false⟩, ⟨850, -30, false, true, true⟩,
           ⟨0, 0, false, false, false⟩, ⟨0, 0, false, false, false⟩]⟩) := by
  decide

/-- Payload of a WRITE_SELECTION (entry 1 of section 5.8) and the option of RESET_UNIT. -/
theorem test_payload_selection :
    parseRequest .writeSelection
      [0x01#8, 0x00#8, 0x09#8, 0x2C#8, 0x01#8, 0xBC#8, 0x02#8, 0x00#8, 0x02#8] =
      some (.writeSelection ⟨1, ⟨true, 9, 300, 700, .inbound, 2⟩⟩) ∧
    parseRequest .resetUnit [0x01#8] = some (.resetUnit true) ∧
    parseRequest .resetUnit [0x02#8] = none := by
  decide

/-- The beat of the corridor: CC 418 (01A2h), C 900 (0384h), plan 5, no pending plan, RUN, bias 80. -/
theorem test_beat_payload :
    (lineFrame corridor (.beat 9)).payload =
      [0xA2#8, 0x01#8, 0x84#8, 0x03#8, 0x05#8, 0x00#8, 0x02#8, 0x50#8] := by
  decide

/-- The steer of section 4.8's second local zero, as junction 3's record would give it: LENGTHEN is 1 in
bits 2 and 3 of the flags. -/
theorem test_steer_payload :
    (lineFrame corridor (.steer
      { junction := 3, plan := 5, lcur := 920, windowEnd := 540, full := false, gate := false
        seek := .lengthen, offsetNow := 337, target := 357, delta := 20, action := .none
        amount := 0 })).payload =
      [0x03#8, 0x05#8, 0x98#8, 0x03#8, 0x1C#8, 0x02#8, 0x04#8, 0x00#8, 0x00#8, 0x51#8, 0x01#8, 0x65#8,
       0x01#8, 0x14#8, 0x00#8, 0x00#8, 0x00#8] := by
  decide

/-- No word of the table spells a command. -/
theorem test_table_word : decodeTableWord 32 0 = none ∧ State.reset.withFetchWord 8 1 = State.reset :=
  ⟨rfl, rfl⟩

/-! ### The Band Engine: section 2.9 with its variations -/

theorem test_computation_2_9 : computeSet snapshot 58 = set58 := by decide +kernel

theorem test_computation_bias_79 :
    (computeSet { snapshot with bias := 79 } 58).entries.map TargetEntry.target = [0, 417, 320, 359] := by
  decide +kernel

theorem test_computation_gated :
    let x := { snapshot with spillIn := snapshot.spillIn.set 2 true }
    (x.gEff 2, x.bandIn, x.bandOut) = (270, 257, 80) := by
  decide +kernel

theorem test_computation_lost :
    let x := { snapshot with roster := snapshot.roster.set 1 .lost }
    (x.bandIn, x.bandOut) = (437, 318) := by
  decide +kernel

/-! ### The Offset Seeker: sections 4.8 and 4.9 -/

theorem test_seeker_lengthens :
    seekChoice head900 { gEff := 540, full := false } (seekError 900 357 157) =
      { seek := .lengthen, delta := 180, lcur := 1080 } ∧
    seekChoice head900 { gEff := 540, full := false } (seekError 900 357 337) =
      { seek := .lengthen, delta := 20, lcur := 920 } := by
  decide

theorem test_seeker_shortens :
    seekChoice head900 { gEff := 540, full := false } (seekError 900 100 157) =
      { seek := .shorten, delta := -57, lcur := 843 } ∧
    seekChoice head900 { gEff := 450, full := false } (seekError 900 418 478) =
      { seek := .shorten, delta := -60, lcur := 840 } := by
  decide

/-! ### The state after reset (R24, R51, R138, R151, R164) -/

theorem test_reset :
    State.reset.timebase.mode = .hold ∧ State.reset.line.state = .busy ∧
    State.reset.handler.served = .centre ∧ State.reset.roster.junctions[1].state = .silent ∧
    State.reset.roster.junctions[2].state = .absent ∧ State.reset.line.steerCredit = 3 ∧
    State.reset.line.replyCredit = 1 ∧ State.reset.pending = [] := by
  decide

/-! ### One test or two for each command -/

/-- Section 5.7, report 2: 420 held and 700 carried give 490, and the level stays. -/
theorem test_report_smooths :
    let s := { corridor with demand := { corridor.demand with
      junctions := corridor.demand.junctions.set 2 { sIn := 420, sOut := 100, inVolume := 0
                                                     outVolume := 0 } } }
    let u := after .report (fromStation 2 (.report ⟨700, 100, 3, 4, true, false, false⟩) s)
    (u.demand.junctions[2].sIn, u.demand.junctions[2].sOut, u.demand.levelIn[1],
      u.roster.junctions[2].reports, lastLineCode u) = (490, 100, 1, 1, some .ok) := by
  decide +kernel

/-- Section 8.7, report c: the third of a period is THROTTLED. -/
theorem test_report_throttled :
    let s := { corridor with roster := rosterWith 2 { linked with reports := 2 } }
    let u := after .report (fromStation 2 (.report ⟨700, 100, 3, 4, false, true, false⟩) s)
    lastLineCode u = some .throttled ∧ u.roster = s.roster ∧ u.gate = s.gate := by
  decide +kernel

/-- Section 7.8, call A: EXTEND 40. -/
theorem test_call_extends :
    let u := after .priorityCall (fromStation 1 (.priorityCall ⟨1, .inbound, 371, 70⟩) corridor)
    (u.cycles[1].windowEnd, u.cycles[1].lcur, u.cycles[1].extension, u.cycles[1].actionTaken,
      u.cycles[1].lockout, u.priority.list) = (490, 940, some ⟨371, 40⟩, true, 1, []) ∧
    (noticeBodies u) =
      [.priorityOutcome 1 .inbound 371 (.granted .extend 40) (.station 2) true] := by
  decide +kernel

/-- Section 7.8, an early green: a = 70. -/
theorem test_call_early :
    let s := atCycle { cycle450 with lc := 700, windowOpen := false }
    (after .priorityCall (fromCentre (.priorityCall ⟨1, .inbound, 9, 130⟩) s)).cycles[1].lcur = 830 := by
  decide +kernel

/-- Section 7.8, the cancel of tag 371 at LC 430: CUT 40. -/
theorem test_cancel_cuts :
    let s := atCycle (extended 430)
    let u := after .priorityCancel (fromStation 1 (.priorityCancel ⟨1, 371⟩) s)
    (u.cycles[1].windowEnd, u.cycles[1].lcur, u.cycles[1].extension, u.cycles[1].windowOpen,
      noticeBodies u) = (450, 900, none, true, [.priorityCut 371 40]) := by
  decide +kernel

/-- Section 7.8, the cut taken late: at LC 470 the window closes, and Lcur becomes 920. -/
theorem test_cancel_cuts_late :
    let s := atCycle (extended 470)
    let u := after .priorityCancel (fromStation 1 (.priorityCancel ⟨1, 371⟩) s)
    (u.cycles[1].windowEnd, u.cycles[1].lcur, u.cycles[1].extension, u.cycles[1].windowOpen) =
      (470, 920, none, false) := by
  decide +kernel

theorem test_readStatus_clears :
    let s := { corridor with line := { corridor.line with missedBeats := 4, arbitrationDrops := 5 } }
    let u := after .readStatus (fromCentre (.readStatus ⟨true, 0⟩) s)
    (u.line.missedBeats, u.line.arbitrationDrops, lastCode u) = (0, 0, some .ok) := by
  decide +kernel

theorem test_readJunction_range :
    lastCode (after .readJunction (fromCentre (.readJunction ⟨12, 0⟩) corridor)) = some .badArgument ∧
    lastCode (after .readJunction (fromCentre (.readJunction ⟨11, 0⟩) corridor)) = some .ok := by
  decide +kernel

/-- Plan 0 and every field 0 for an empty set; plan 5, generation 58 (3Ah), C 900 for that of 2.9. -/
theorem test_readBand :
    (centreReplies (after .readBand (fromCentre (.readBand 0) State.reset)).centre).map Reply.result =
      [List.replicate 11 0#8] ∧
    ((centreReplies (after .readBand (fromCentre (.readBand 0) corridor)).centre).map
      fun r => r.result.take 11) =
      [[0x05#8, 0x3A#8, 0x00#8, 0x84#8, 0x03#8, 0x04#8, 0x50#8, 0x86#8, 0x01#8, 0x04#8, 0x01#8]] := by
  decide +kernel

/-- An EMPTY plan returns its erase values, C 400 (0190h) the first of them. -/
theorem test_readPlanHead :
    ((centreReplies (after .readPlanHead (fromCentre (.readPlanHead ⟨24, 0⟩) State.reset)).centre).map
      fun r => (r.code, r.result.drop 7 |>.take 2)) = [(.ok, [0x90#8, 0x01#8])] ∧
    lastCode (after .readPlanHead (fromCentre (.readPlanHead ⟨25, 0⟩) State.reset)) =
      some .badArgument := by
  decide +kernel

theorem test_readPlanGroup :
    ((centreReplies (after .readPlanGroup (fromCentre (.readPlanGroup ⟨5, 0, 0⟩) corridor)).centre).map
      fun r => r.result.take 5) = [[0x26#8, 0x02#8, 0x00#8, 0x00#8, 0x02#8]] ∧
    lastCode (after .readPlanGroup (fromCentre (.readPlanGroup ⟨5, 3, 0⟩) corridor)) =
      some .badArgument := by
  decide +kernel

theorem test_writePlanHead :
    let u := after .writePlanHead (fromCentre (.writePlanHead ⟨9, { head900 with p := 901 }⟩) corridor)
    (u.store.plans[8].state, u.store.plans[8].stamp, u.store.plans[8].head.p, u.retention) =
      (.unchecked, 14, 901, some (.planHead 8)) ∧
    lastCode (after .writePlanHead (fromCentre (.writePlanHead ⟨5, head900⟩) corridor)) =
      some .inUse := by
  decide +kernel

theorem test_writePlanGroup :
    let u := after .writePlanGroup
      (fromCentre (.writePlanGroup ⟨9, 1, Vector.replicate 4 (share 850)⟩) corridor)
    (u.store.plans[8].entries[3].share, u.store.plans[8].entries[4].share,
      u.store.plans[8].entries[7].share, u.store.plans[8].entries[8].share,
      u.store.plans[8].state) = (600, 850, 850, 0, .unchecked) := by
  decide +kernel

theorem test_erasePlan :
    let u := after .erasePlan (fromCentre (.erasePlan 9) corridor)
    u.store.plans[8] = .erased ∧ u.retention = some (.planState 8 true) := by
  decide +kernel

/-- As in section 1.7, step 5: a share of 850 at C = 900 has g = 765, and 765 + 150 > 900. -/
theorem test_checkPlan :
    let p := { plan900 with state := .unchecked, entries := plan900.entries.set 3 (share 850) }
    let s := { corridor with store := corridor.store.putPlan 8 p }
    let u := after .checkPlan (fromCentre (.checkPlan 9) s)
    (u.store.plans[8].state, u.store.plans[8].fault, u.retention) =
      (.unchecked, .sideTime 3, some (.planState 8 false)) ∧
    (centreReplies u.centre).map Reply.result =
      [[0x06#8, 0x03#8, 0x0E#8, 0x00#8]] := by
  decide +kernel

theorem test_readGeometryHead :
    lastCode (after .readGeometryHead (fromCentre (.readGeometryHead 0) corridor)) = some .ok := by
  decide +kernel

theorem test_readGeometryGroup :
    ((centreReplies (after .readGeometryGroup
      (fromCentre (.readGeometryGroup ⟨0, 0⟩) corridor)).centre).map Reply.result) =
      [[0x01#8, 0x00#8, 0x00#8, 0x02#8, 0x58#8, 0x02#8, 0x03#8, 0xDC#8, 0x05#8, 0x04#8, 0x60#8,
        0x09#8]] := by
  decide +kernel

/-- A head write that brings junction 4 in and one that leaves junctions 2 and 3 out (R139). -/
theorem test_writeGeometryHead :
    let u := fun n => after .writeGeometryHead
      (fromCentre (.writeGeometryHead { GeometryHead.blank with n }) holding)
    ((u 5).roster.junctions[4].state, (u 5).roster.junctions[3].state, (u 2).roster.junctions[2].state,
      (u 2).store.geometry.state, (u 2).retention) =
      (.silent, .linked, .absent, .unchecked, some .geometryHead) ∧
    lastCode (after .writeGeometryHead (fromCentre (.writeGeometryHead .blank) corridor)) =
      some .wrongMode := by
  decide +kernel

theorem test_writeGeometryGroup :
    let u := after .writeGeometryGroup
      (fromCentre (.writeGeometryGroup ⟨2, Vector.replicate 4 ⟨9, 12000⟩⟩) holding)
    (u.store.geometry.entries[7].address, u.store.geometry.entries[8].address,
      u.store.geometry.entries[11].position) = (8, 9, 12000) := by
  decide +kernel

/-- The stamp 65535 is followed by 1 (R7). -/
theorem test_checkGeometry :
    let s := { holding with store := { holding.store with
      geometry := { geometry4 with state := .unchecked, stamp := 65535 } } }
    let u := after .checkGeometry (fromCentre .checkGeometry s)
    (u.store.geometry.state, u.store.geometry.stamp, u.retention) =
      (.valid, 1, some .geometryHead) := by
  decide +kernel

theorem test_readSelection :
    ((centreReplies (after .readSelection
      (fromCentre (.readSelection ⟨15, 0⟩) State.reset)).centre).map Reply.result) =
      [[0x01#8, 0x00#8, 0x00#8, 0x00#8, 0xE8#8, 0x03#8, 0x03#8, 0x01#8]] := by
  decide +kernel

theorem test_writeSelection :
    (after .writeSelection (fromCentre (.writeSelection ⟨1, ⟨true, 9, 300, 700, .inbound, 2⟩⟩)
      corridor)).store.selection[1] = ⟨true, 9, 300, 700, .inbound, 2⟩ ∧
    lastCode (after .writeSelection (fromCentre (.writeSelection ⟨1, ⟨true, 0, 300, 700, .any, 2⟩⟩)
      corridor)) = some .badArgument := by
  decide +kernel

theorem test_pinPlan :
    let u := after .pinPlan (fromCentre (.pinPlan 9) corridor)
    (u.timebase.pendingPlan, u.selector.planPin, u.engine.computing.map Snapshot.plan,
      u.engine.computing.map Snapshot.bias) = (9, some 9, some 9, some 60) := by
  decide +kernel

/-- Section 5.8's variation: a pin of 95 under a range that ends at 85. -/
theorem test_pinBias :
    let u := after .pinBias (fromCentre (.pinBias 95) corridor)
    (u.selector.biasPin, u.selector.liveBias, u.engine.computing.map Snapshot.bias) =
      (some 95, 85, some 85) ∧
    lastCode (after .pinBias (fromCentre (.pinBias 101) corridor)) = some .badArgument := by
  decide +kernel

theorem test_releaseHold :
    let u := after .releaseHold (fromCentre (.releaseHold 5) holding)
    (u.timebase.mode, u.timebase.entry, u.selector.liveBias, noticeBodies u) =
      (.entering, 5, 60, [.modeChanged .hold .entering 5]) ∧
    lastCode (after .releaseHold (fromCentre (.releaseHold 6) holding)) = some .notReady := by
  decide +kernel

theorem test_enterHold :
    let u := after .enterHold (fromCentre .enterHold listedA)
    (u.timebase.mode, u.timebase.cc, u.priority.list, u.engine.active, lineBeats u.line) =
      (.hold, 0, [], some set58, [10]) ∧
    lastCode (after .enterHold (fromCentre .enterHold holding)) = some .wrongMode := by
  decide +kernel

theorem test_resetUnit :
    let u := after .resetUnit (fromCentre (.resetUnit true) corridor)
    u.handler.reset = some { relatch := true, replyDone := false } ∧
    u.timebase = corridor.timebase := by
  decide +kernel

theorem test_resetEngine :
    let u := after .resetEngine (fromCentre .resetEngine corridor)
    (u.engine.active, u.engine.generation, u.timebase.mode, u.selector.liveBias,
      u.roster.junctions[1].state) = (none, 57, .hold, 80, .silent) := by
  decide +kernel

/-- A BEAT (80h) that names the unit is answered as an unknown kind. -/
theorem test_unknownKind :
    let f : Frame := { dest := 0x01#8, src := 0x10#8, kind := 0x80#8, seq := 0x05#8, payload := [] }
    lastLineCode (after .unknownKind { corridor with line := { corridor.line with rx := [f] } }) =
      some .unknownKind := by
  decide +kernel

theorem test_resetNAssert :
    let u := after .resetNAssert { corridor with retention := some .geometryHead }
    (u.inReset, u.retained.headTorn, u.retention) = (true, true, none) := by
  decide +kernel

theorem test_hardwareReset :
    (after (.hardwareReset .lowest) { corridor with inReset := true }).timebase = .initial ∧
    (after (.hardwareReset .lowest) { corridor with retention := some .geometryHead }).store.geometry.fault
      = .torn := by
  decide +kernel

/-- R23, R24: an erase that tore, a check that then completed, and a reset: the state record is mended, so
the plan loads as the check left it, over the erase values of the head and the groups. -/
theorem test_hardwareReset_torn_erase :
    let s := { corridor with
      retained := { Retained.blank with
        geometry := geometry4
        plans := Retained.blank.plans.set 4 { RetainedPlan.blank with record := plan900 } }
      retention := some (.planState 4 true) }
    let torn := after (.hardwareReset .lowest) s
    let checked := { torn with
      store := torn.store.putPlan 4 { torn.store.plans[4] with state := .unchecked, fault := .noBand }
      retention := some (.planState 4 false) }
    let u := after (.hardwareReset .lowest) (after .retentionComplete checked)
    (torn.store.plans[4].state, torn.store.plans[4].fault, torn.store.plans[4].head) =
      (.unchecked, .torn, .erased) ∧
    (u.store.plans[4].state, u.store.plans[4].fault, u.store.plans[4].head,
      u.store.plans[4].entries[0]) = (.unchecked, .noBand, .erased, .erased) := by
  decide +kernel

theorem test_resetUnitTakesEffect :
    let s := { corridor with handler := { corridor.handler with
      reset := some { relatch := false, replyDone := true } } }
    (after (.resetUnitTakesEffect { Straps.lowest with start := .auto }) s).straps = .lowest ∧
    (after (.resetUnitTakesEffect .lowest) s).timebase.mode = .hold := by
  decide +kernel

/-- The switch of section 3.8: plan, C and bias of the new plan; the records stay. -/
theorem test_cycleBoundary :
    let s := { corridor with
      due := { Due.nothing with boundary := true }
      timebase := { corridor.timebase with cc := 0, pendingPlan := 9 }
      engine := { corridor.engine with pendingSet := some { set58 with plan := 9, generation := 31 } } }
    let u := after .cycleBoundary s
    (u.timebase.active, u.timebase.pendingPlan, u.selector.liveBias, noticeBodies u) =
      (9, 0, 60, [.planChanged 5 9 31]) ∧ u.cycles = s.cycles := by
  decide +kernel

/-- Section 6.6, the local zero at CC 318 with inbound link 2 SET: a window of 270. -/
theorem test_localZero_gated :
    let s := { corridor with
      due := { Due.nothing with localZero := Due.nothing.localZero.set 2 true }
      timebase := { corridor.timebase with cc := 318 }
      gate := { corridor.gate with inbound := corridor.gate.inbound.set 2 { isSet := true, run := 0 } } }
    let r := (after (.localZero 2) s).cycles[2]
    (r.windowEnd, r.gEff, r.gate, r.seek, r.lcur, r.windowOpen) = (270, 270, true, .inStep, 900, true) := by
  decide +kernel

/-- Section 4.8, the local zero of junction 3 at CC 157. -/
theorem test_localZero_seeks :
    let s := { corridor with
      due := { Due.nothing with localZero := Due.nothing.localZero.set 3 true }
      timebase := { corridor.timebase with cc := 157 } }
    let r := (after (.localZero 3) s).cycles[3]
    (r.offsetNow, r.targetUsed, r.seek, r.delta, r.lcur, r.windowEnd) =
      (157, 357, .lengthen, 180, 1080, 540) := by
  decide +kernel

theorem test_windowClose :
    let s := atCycle
      { cycle450 with lc := 490, windowEnd := 490, lcur := 940, extension := some ⟨371, 40⟩ }
    let r := (after (.windowClose 1) s).cycles[1]
    (r.windowOpen, r.extension, r.windowEnd, r.lcur) = (false, none, 490, 940) := by
  decide +kernel

/-- The evaluation at the close: 300 ds ahead at LC 490 of 900, EARLY by E_max (R68, R128, R130). -/
theorem test_windowClose_evaluates :
    let s := { atCycle { cycle450 with lc := 490, windowEnd := 490 } with
      priority := { clock := 10400, list := [{ entryA with due := 10700 }] } }
    let u := after (.windowClose 1) s
    (u.cycles[1].windowOpen, u.cycles[1].lcur, u.cycles[1].lockout, u.priority.list) =
      (false, 800, 1, []) := by
  decide +kernel

theorem test_beatDue :
    let s := { corridor with
      due := { Due.nothing with beat := true }
      line := { corridor.line with beat := some { seq := 9, losses := 3 } } }
    let u := after .beatDue s
    (u.line.beat, u.line.missedBeats) = (some { seq := 10, losses := 0 }, 1) := by
  decide +kernel

/-- Section 5.8, the first evaluation: B from 60 to 70, candidate 9 with count 1. -/
theorem test_evaluation :
    let d := fun i o : Nat => ({ sIn := i, sOut := o, inVolume := 0, outVolume := 0 } : JunctionDemand)
    let s := { corridor with
      selector := { corridor.selector with liveBias := 60, evalTimer := some 0 }
      store := { corridor.store with selection :=
        (corridor.store.selection.set 0 ⟨true, 2, 0, 200, .any, 1⟩).set 1 table1 }
      demand := { corridor.demand with junctions := (((corridor.demand.junctions.set 0
        (d 600 120)).set 1 (d 480 200)).set 2 (d 500 160)).set 3 (d 420 100) } }
    let u := after .evaluation s
    (demandIn s, demandOut s, totalDemand s, biasTarget s) = (500, 145, 322, 78) ∧
    (u.selector.liveBias, u.selector.candidate, u.selector.count, u.timebase.pendingPlan) =
      (70, some 9, 1, 0) := by
  decide +kernel

theorem test_pinLapse :
    let s := { corridor with
      store := { corridor.store with geometry := { geometry4 with
        head := { geometry4.head with pinLapse := 1 } } }
      selector := { corridor.selector with biasPin := some 80, silence := 600 } }
    let u := after .pinLapse s
    (u.selector.biasPin, u.selector.liveBias, noticeBodies u) =
      (none, 60, [.pinLapsed none (some 80)]) := by
  decide +kernel

/-- Section 8.7, the end of period 5: junction 2 enters LOST, and its entry leaves. -/
theorem test_periodEnd_lost :
    let s := { corridor with
      due := { Due.nothing with periodEnd := true }
      store := { corridor.store with geometry := { geometry4 with
        head := { geometry4.head with downgradeLimit := 4 } } }
      roster := rosterWith 2 { linked with state := .degraded, misses := 3 }
      gate := { corridor.gate with inbound := corridor.gate.inbound.set 2 { isSet := true, run := 0 } }
      priority := { corridor.priority with list :=
        [{ entryA with junction := 2, tag := 88, source := .station 3 }] } }
    let u := after .periodEnd s
    (u.roster.junctions[2].state, u.roster.junctions[2].misses, u.demand.levelIn[1],
      u.gate.inbound[2].isSet, u.priority.list) = (.lost, 4, 0, false, []) ∧
    noticeBodies u =
      [.spillback .inbound 2 false 2 .lost,
       .priorityOutcome 2 .inbound 88 (.dropped .lost) (.station 3) true,
       .junctionState 2 3 .degraded .lost 4] := by
  decide +kernel

theorem test_priorityExpiry :
    (after (.priorityExpiry 1 371) { listedA with priority :=
      { listedA.priority with clock := 11000 } }).priority.list = [] ∧
    (after (.priorityExpiry 1 371) { listedA with priority :=
      { listedA.priority with clock := 10999 } }).priority.list = [entryA] := by
  decide +kernel

theorem test_retentionComplete :
    let u := after .retentionComplete { corridor with retention := some (.planHead 4) }
    (u.retained.plans[4].record.head.c, u.retained.plans[4].record.entries[0].share, u.retention) =
      (900, 0, none) := by
  decide +kernel

/-- The publication for the entry plan: junction 3 stands at LC 900 - 311, its target at bias 100. -/
theorem test_computationComplete_run :
    let s := { entering with
      selector := { Selector.initial with liveBias := 100 }
      demand := corridor.demand }
    let u := after .computationComplete
      { s with engine := { s.engine with computing := some (takeSnapshot s 5 .entry) } }
    (u.timebase.mode, u.timebase.cc, u.cycles[3].lc, u.cycles[3].windowOpen, noticeBodies u) =
      (.run, 0, 589, false, [.modeChanged .entering .run 5]) := by
  decide +kernel

theorem test_lineBusy : (after .lineBusy { corridor with line :=
    { corridor.line with state := .free } }).line.state = .busy := by
  decide +kernel

theorem test_lineFault :
    noticeBodies (after .lineFault corridor) = [.lineState .fault] := by
  decide +kernel

/-- Steers and replies wait with both credits spent: both are refilled, and the steer is chosen. -/
theorem test_lineFree_refills :
    let steer := steerOf corridor 1 .none 0
    let reply : ReplyItem := .reply { dest := 2, seq := 0x03#8, code := .ok, result := [] }
    let s := { corridor with line := { corridor.line with
      steers := [{ steer, losses := 0 }], replies := [{ item := reply, losses := 0 }]
      steerCredit := 0, replyCredit := 0 } }
    let u := after (.lineFree []) s
    (u.line.inFlight.map InFlight.item, u.line.steers, u.line.steerCredit, u.line.replyCredit) =
      (some (.steer steer), [], 3, 1) := by
  decide +kernel

theorem test_lineFrameReceived :
    let f := (Request.pinBias 80).frame 16 2 7
    (after (.lineFrameReceived f.chars) corridor).line.rx = [f] ∧
    (after (.lineFrameReceived ((Request.pinBias 80).frame 17 2 7).chars) corridor).line.rx = [] := by
  decide +kernel

/-- R152: the unit takes no frame that it is itself sending, though its destination is the unit. -/
theorem test_lineFrameReceived_own :
    let f := (Request.pinBias 80).frame 16 16 7
    let s := { corridor with line := { corridor.line with
      inFlight := some { item := .beat 9, losses := 0, orphaned := false, chars := f.chars } } }
    (after (.lineFrameReceived f.chars) s).line.rx = [] ∧
    (after (.lineFrameReceived f.chars) corridor).line.rx = [f] := by
  decide +kernel

theorem test_lineFrameDiscarded :
    (after (.lineFrameDiscarded .brokenFrame [0x01#8, 0x10#8]) corridor).line.errors.brokenFrame = 1 ∧
    (after (.lineFrameDiscarded .brokenFrame [0x11#8, 0x10#8]) corridor).line.errors.brokenFrame =
      0 := by
  decide +kernel

theorem test_frameComplete :
    let s := flying (.steer (steerOf corridor 1 .none 0)) 0
    let u := after .frameComplete s
    (u.line.inFlight, u.line.steerCredit) = (none, 2) := by
  decide +kernel

/-- The sixteenth loss of a beat: a drop and a missed beat. -/
theorem test_arbitrationLoss :
    let s := flying (.beat 9) 15
    let u := after .arbitrationLoss s
    (u.line.arbitrationDrops, u.line.missedBeats, u.line.beat) = (1, 1, none) := by
  decide +kernel

theorem test_centreFrameReceived :
    let f := (Request.pinBias 80).frame 5 0 7
    let u := after (.centreFrameReceived f.chars)
      { corridor with selector := { corridor.selector with silence := 99 } }
    (u.centre.rx, u.selector.silence) = ([f], 0) := by
  decide +kernel

theorem test_centreFrameDiscarded :
    (after (.centreFrameDiscarded .length [0x01#8, 0x00#8, 0x39#8, 0x07#8, 0x19#8])
      corridor).centre.errors.length = 1 := by
  decide +kernel

/-- The oldest reply goes before the oldest notice. -/
theorem test_centreFrameComplete :
    let r : Reply := { dest := 0, seq := 0x07#8, code := .ok, result := [] }
    let n : Notice := { seq := 4, body := .lineState .fault }
    let s := { corridor with centre := { corridor.centre with
      sending := some (.notice n []), replies := [r], notices := [n] } }
    let u := after .centreFrameComplete s
    (u.centre.replies, u.centre.notices, u.centre.sending.bind CentreSending.replySent) =
      ([], [n], some r) := by
  decide +kernel

/-- CC returns from 899 to 0 at the boundary, and a record at Lcur - 1 reaches its local zero. -/
theorem test_decisecondTick :
    let s := { corridor with
      timebase := { corridor.timebase with cc := 899, divider := some 1 }
      cycles := corridor.cycles.set 1 { cycle450 with lc := 899, windowOpen := false } }
    let u := after .decisecondTick s
    (u.timebase.cc, u.due.boundary, u.due.beat) = (0, true, true) ∧
    (u.due.localZero[1], u.cycles[1].lc, u.priority.clock) = (true, 0, 10401) ∧
    u.selector.evalTimer = some 2999 := by
  decide +kernel

/-! ### Witnesses: the hypotheses of each statement, met -/

/-- The state with a retention write in progress. -/
def writing (s : State) : State := { s with retention := some .geometryHead }

/-- The corridor with plan 9 pending and its set published. -/
def switching : State :=
  { corridor with
    due := { Due.nothing with boundary := true }
    timebase := { corridor.timebase with cc := 0, pendingPlan := 9 }
    engine := { corridor.engine with pendingSet := some { set58 with plan := 9, generation := 59 } } }

/-- The state with a computation in flight. -/
def computing (s : State) (p : Nat) (role : PlanRole) : State :=
  { s with engine := { s.engine with computing := some (takeSnapshot s p role) } }

theorem test_witness_StepRunsFrontCommand :
    (corridor.setPending [.beatDue, .report]).pending = .beatDue :: [.report] := rfl

theorem test_witness_ExecLeavesQueueAndRest :
    AtRest corridor ∧ exec .beatDue corridor = .next (after .beatDue corridor) := ⟨rfl, rfl⟩

/-- The silence timer one below the lapse and one beyond it, LC one below the window end, a clock one below
the expiry time, and a frame of another kind in turn. -/
theorem test_witness_NothingDueChangesNothing :
    let s := State.reset
    let pinned := fun (silence : Nat) => { corridor with
      store := { corridor.store with geometry := { geometry4 with
        head := { geometry4.head with pinLapse := 1 } } }
      selector := { corridor.selector with biasPin := some 80, silence } }
    (s.pending = [] ∧ s.due.boundary = false ∧ s.due.localZero[(11 : Junction)] = false ∧
      s.timebase.mode ≠ .run ∧ (atCycle { cycle450 with windowOpen := false }).cycles[(1 : Junction)].windowOpen
        = false ∧ (atCycle { cycle450 with full := true }).cycles[(1 : Junction)].full = true ∧
      (atCycle { cycle450 with lc := 449 }).cycles[(1 : Junction)].lc <
        (atCycle { cycle450 with lc := 449 }).cycles[(1 : Junction)].windowEnd) ∧
    (s.due.beat = false ∧ corridor.selector.evalTimer ≠ some 0 ∧ s.selector.planPin = none ∧
      s.selector.biasPin = none ∧ s.due.periodEnd = false) ∧
    ((pinned 599).selector.silence ≠ 600 * (pinned 599).store.geometry.head.pinLapse ∧
      (pinned 601).selector.silence ≠ 600 * (pinned 601).store.geometry.head.pinLapse) ∧
    (let w := { listedA with priority := { listedA.priority with clock := 10999 } };
      ∀ e ∈ w.priority.list, e.junction = 1 → e.tag = 371 → ¬ EntryAtExpiry w e) ∧
    (s.retention = none ∧ s.engine.computing = none ∧ s.line.inFlight = none ∧
      s.centre.sending = none ∧ s.handler.reset = none) ∧
    (s.line.state ≠ .free ∧ (freed s).line.state = .free ∧ (freed s).line.state ≠ .busy) ∧
    EventStands switching ∧
    (∀ t, nextFrame (fromCentre .enterHold corridor) = some t →
      kindOf t.frame.kind ≠ some .releaseHold) ∧ 12 ≤ 12 := by
  simp only [← expired_iff, ← somethingDue_iff]
  refine ⟨by decide +kernel, by decide +kernel, by decide +kernel, by decide +kernel, by decide +kernel,
    by decide +kernel, by decide +kernel, ?_, by decide⟩
  intro t ht
  have : nextFrame (fromCentre .enterHold corridor) = some (centreTaken .enterHold) := by decide +kernel
  obtain rfl := Option.some.inj (this.symm.trans ht)
  decide +kernel

/-- What stands at each boundary of R62, R110 and R135. -/
theorem test_event_stands_at_its_boundary :
    WindowAtEnd { cycle450 with lc := 450 } ∧ ¬ WindowAtEnd { cycle450 with lc := 449 } ∧
    (let at' := fun (clock : Nat) => { listedA with priority := { listedA.priority with clock } };
      EntryAtExpiry (at' 11000) entryA ∧ EntryAtExpiry (at' 11001) entryA ∧
      ¬ EntryAtExpiry (at' 10999) entryA) := by
  simp only [← closeDue_iff, ← expired_iff]
  decide +kernel

theorem test_witness_RequestPayloadsRoundTrip :
    (Request.writePlanGroup ⟨255, 255, Vector.replicate 4 { share 65535 with trim := -32768 }⟩).wellFormed
      = true ∧ Request.resetEngine.wellFormed = true := by
  decide

/-- Payloads of 1 and of 24 characters, the shortest and the longest beginning of a frame, and the least
length that is too long. -/
theorem test_witness_FramesRoundTrip :
    let f := (Request.pinBias 80).frame 16 0 7
    f.payload.length ≤ 24 ∧ ({ f with payload := List.replicate 24 0#8 } : Frame).payload.length ≤ 24 ∧
    [0x93#8, 0x00#8] ≠ char2 (checkWord f.body) ∧ 0 < f.chars.length ∧ 7 < f.chars.length ∧
    24 < (0x19#8 : Byte).toNat := by
  decide

/-- With the ports as they stand, on a FREE line with nothing waiting, and on an idle centre link. -/
theorem test_witness_RequestYieldsOneReply :
    nextFrame (fromCentre .enterHold corridor) = some (centreTaken .enterHold) ∧
    nextFrame (fromStation 1 (.readBand 0) corridor) = some (stationTaken 1 (.readBand 0)) ∧
    (let s := freed (fromStation 1 (.readBand 0) corridor);
      nextFrame s = some (stationTaken 1 (.readBand 0)) ∧ s.line.state = .free ∧
      s.line.inFlight = none ∧ s.line.beat = none ∧ s.line.steers = [] ∧ s.line.replies = []) ∧
    (fromCentre .enterHold corridor).centre.sending = none ∧
    (fromCentre .enterHold corridor).centre.replies = [] := by
  decide +kernel

/-- Reply queues with one free place and full; a source that two entries hold, one that none holds, one
that only a junction at N or above holds; then each of the handler's own refusals. -/
theorem test_witness_HandlerAdmits :
    (let f := (stationTaken 1 (.readBand 0)).frame
      let r : Reply := { dest := 2, seq := 0x03#8, code := .ok, result := [] }
      let s := fun (lineWait centreWait : Nat) => { corridor with
        line := { corridor.line with
          rx := [f], replies := List.replicate lineWait { item := .reply r, losses := 0 } }
        centre := { corridor.centre with rx := [f], replies := List.replicate centreWait r } };
      nextPort (s 7 3) = some .line ∧ nextPort (s 7 4) = some .line ∧ nextPort (s 8 3) = some .centre ∧
      nextPort (s 8 4) = none) ∧
    (let held := fun (j : Junction) (address : Nat) => { corridor with store := { corridor.store with
        geometry := { corridor.store.geometry with
          entries := corridor.store.geometry.entries.set j.val { address, position := 1500 } j.isLt } } };
      nextFrame (fromStation 1 (.readBand 0) (held 2 2)) = some (stationTaken 1 (.readBand 0)) ∧
      nextFrame (fromStation 8 (.readBand 0) corridor) =
        some { stationTaken 8 (.readBand 0) with sender := .unknown } ∧
      nextFrame (fromStation 8 (.readBand 0) (held 8 9)) =
        some { stationTaken 8 (.readBand 0) with sender := .unknown }) ∧
    (corridor.inReset = false ∧ corridor.handler.reset = none ∧
      (centreTaken .enterHold).sender = .centre ∧ (stationTaken 1 (.readBand 0)).sender = .junction 1 ∧
      ({ stationTaken 1 (.readBand 0) with sender := .unknown } : Taken).sender = .unknown) ∧
    (let t : Taken := { centreTaken .enterHold with
        frame := { (centreTaken .enterHold).frame with kind := 0x84#8, payload := [0#8] } }
      let s := { corridor with centre := { corridor.centre with rx := [t.frame] } };
      nextFrame s = some t ∧ kindOf t.frame.kind = none) ∧
    (let t := stationTaken 1 (.pinBias 80);
      nextFrame (fromStation 1 (.pinBias 80) corridor) = some t ∧
      kindOf t.frame.kind = some .pinBias ∧ hasRight .pinBias t = false) ∧
    (let t : Taken := { centreTaken .enterHold with
        frame := { (centreTaken .enterHold).frame with payload := [0#8] } }
      let s := { corridor with centre := { corridor.centre with rx := [t.frame] } };
      nextFrame s = some t ∧ kindOf t.frame.kind = some .enterHold ∧ hasRight .enterHold t = true ∧
      parseRequest .enterHold t.frame.payload = none) := by
  decide +kernel

/-- Every request of the centre is admitted from its frame. -/
def admittedFromCentre (s : State) (r : Request) : Bool :=
  decide (nextFrame (fromCentre r s) = some (centreTaken r)) &&
  decide (kindOf (centreTaken r).frame.kind = some r.kind) && hasRight r.kind (centreTaken r) &&
  decide (parseRequest r.kind (centreTaken r).frame.payload = some r) &&
  !(fromCentre r s).causeRaised

/-- The test says that the request is admitted in a state in which no cause waits. -/
theorem admits_of {s : State} {r : Request} (h : admittedFromCentre s r = true) :
    Admits (fromCentre r s) (centreTaken r) r ∧ AtRest (fromCentre r s) := by
  simp only [admittedFromCentre, Bool.and_eq_true, decide_eq_true_eq, Bool.not_eq_true'] at h
  exact ⟨⟨h.1.1.1.1, h.1.1.1.2, h.1.1.2, h.1.2⟩, h.2⟩

/-- Reads at the ends of their ranges, one beyond each, and the last page and one beyond. -/
theorem test_witness_StoreReadsAnswered :
    [Request.readPlanHead ⟨1, 0⟩, .readPlanHead ⟨24, 1⟩, .readPlanHead ⟨25, 0⟩, .readPlanHead ⟨0, 0⟩,
     .readPlanHead ⟨1, 255⟩, .readPlanGroup ⟨24, 2, 0⟩, .readPlanGroup ⟨1, 3, 0⟩, .readGeometryHead 0,
     .readGeometryHead 255, .readGeometryGroup ⟨2, 0⟩, .readGeometryGroup ⟨3, 0⟩, .readSelection ⟨15, 0⟩,
     .readSelection ⟨16, 0⟩].all (admittedFromCentre corridor) = true := by
  decide +kernel

theorem test_witness_UnitReadsAnswered :
    [Request.readStatus ⟨false, 0⟩, .readStatus ⟨true, 0⟩, .readStatus ⟨true, 255⟩, .readJunction ⟨11, 0⟩,
     .readJunction ⟨12, 0⟩, .readBand 0, .readBand 255].all (admittedFromCentre corridor) = true ∧
    pageOf (statusResult (takeFrame .centre (fromCentre (.readStatus ⟨true, 255⟩) corridor))) 255 = none ∧
    (pageOf (statusResult (takeFrame .centre (fromCentre (.readStatus ⟨true, 0⟩) corridor))) 0).isSome =
      true := by
  decide +kernel

theorem test_witness_PlanRecordsWritten :
    ([Request.writePlanHead ⟨25, head900⟩, .writePlanHead ⟨9, { head900 with c := 399 }⟩,
      .writePlanHead ⟨24, { head900 with c := 2400 }⟩, .writePlanGroup ⟨1, 2, Vector.replicate 4 (share 1000)⟩,
      .writePlanGroup ⟨1, 3, Vector.replicate 4 (share 0)⟩,
      .writePlanGroup ⟨1, 0, Vector.replicate 4 (share 1001)⟩, .erasePlan 0, .erasePlan 24,
      .erasePlan 5].all (fun r => admittedFromCentre corridor r && admittedFromCentre (writing corridor) r)
      = true) ∧
    ¬ PlanNumber 25 ∧ ¬ PlanNumber 0 ∧ ¬ PlanHeadRanges { head900 with c := 399 } ∧
    PlanHeadRanges { head900 with c := 2400 } ∧ PlanEntryRanges (share 1000) ∧
    ¬ PlanEntryRanges (share 1001) ∧ PlanInUse corridor 5 ∧ ¬ PlanInUse corridor 24 ∧
    ¬ PlanInUse (writing corridor) 9 ∧ (writing corridor).retention ≠ none ∧
    corridor.retention = none := by
  unfold PlanNumber PlanHeadRanges PlanEntryRanges PlanInUse
  and_intros <;> decide +kernel

theorem test_witness_PlanChecked :
    ([Request.checkPlan 0, .checkPlan 5, .checkPlan 24].all (admittedFromCentre corridor) = true) ∧
    admittedFromCentre (writing corridor) (.checkPlan 5) = true ∧
    corridor.store.plans[(23 : Fin 24)].state = .empty ∧ corridor.store.plans[(4 : Fin 24)].state ≠ .empty ∧
    (writing corridor).store.plans[(4 : Fin 24)].state ≠ .empty := by
  decide +kernel

theorem test_witness_DerivedFactsFollowTheState :
    ¬ PlanNumber 25 ∧ (3 : Junction).val < junctionCount corridor ∧ holding.timebase.mode = .hold ∧
    entering.timebase.mode = .entering ∧ corridor.timebase.mode = .run ∧
    corridor.timebase.pendingPlan = 0 ∧ switching.timebase.pendingPlan ≠ 0 ∧
    corridor.selector.biasPin = none ∧
    ({ corridor.selector with biasPin := some 95 } : Selector).biasPin = some 95 := by
  unfold PlanNumber
  decide +kernel

theorem test_witness_GeometryRecordsWritten :
    ([Request.writeGeometryHead { GeometryHead.blank with n := 4 },
      .writeGeometryHead { GeometryHead.blank with n := 13 },
      .writeGeometryGroup ⟨2, Vector.replicate 4 ⟨15, 12000⟩⟩,
      .writeGeometryGroup ⟨0, Vector.replicate 4 ⟨16, 0⟩⟩].all (fun r => admittedFromCentre corridor r &&
        admittedFromCentre holding r && admittedFromCentre (writing holding) r) = true) ∧
    GeometryHeadRanges { GeometryHead.blank with n := 4 } ∧
    ¬ GeometryHeadRanges { GeometryHead.blank with n := 13 } ∧ GeometryEntryRanges ⟨15, 12000⟩ ∧
    ¬ GeometryEntryRanges ⟨16, 0⟩ ∧ corridor.timebase.mode ≠ .hold ∧ holding.timebase.mode = .hold ∧
    holding.store.geometry.head.n = 4 ∧ holding.retention = none ∧ (writing holding).retention ≠ none := by
  unfold GeometryHeadRanges GeometryEntryRanges
  decide +kernel

theorem test_witness_CorridorResized :
    ([2, 12].all (fun n => admittedFromCentre holding (.writeGeometryHead { GeometryHead.blank with n }))
      = true) ∧
    GeometryHeadRanges { GeometryHead.blank with n := 2 } ∧
    GeometryHeadRanges { GeometryHead.blank with n := 12 } ∧ holding.timebase.mode = .hold ∧
    holding.retention = none ∧ holding.store.geometry.head.n ≠ 2 ∧
    holding.store.geometry.head.n ≠ 12 := by
  unfold GeometryHeadRanges
  decide +kernel

theorem test_witness_GeometryChecked :
    ([corridor, holding, writing holding, State.reset].all (admittedFromCentre · .checkGeometry) = true) ∧
    junctionCount corridor ≤ 12 ∧ junctionCount holding ≤ 12 ∧ corridor.timebase.mode ≠ .hold ∧
    holding.timebase.mode = .hold ∧ (writing holding).retention ≠ none ∧
    holding.store.geometry.state = .valid ∧ State.reset.store.geometry.state = .unchecked := by
  decide +kernel

theorem test_witness_SelectionWritten :
    ([Request.writeSelection ⟨15, table1⟩, .writeSelection ⟨16, table1⟩].all (fun r =>
      admittedFromCentre corridor r && admittedFromCentre (writing corridor) r) = true) ∧
    SelectionEntryRanges table1 ∧ ¬ SelectionEntryRanges { table1 with plan := 0 } ∧
    SelectionEntryRanges { table1 with plan := 24, low := 1000, high := 1000, persistence := 15 } := by
  unfold SelectionEntryRanges
  decide +kernel

/-- One record of each kind. -/
def eachRecord : List RetentionRecord :=
  [.geometryHead, .geometryGroup 2, .planHead 23, .planGroup 4 2, .planState 4 false, .planState 4 true,
   .selectionEntry 15]

theorem test_witness_RetentionWriteCompletes :
    corridor.inReset = false ∧
    ∀ r ∈ eachRecord, ({ corridor with retention := some r } : State).retention = some r :=
  ⟨rfl, fun _ _ => rfl⟩

theorem test_witness_CopiesAgreeKept :
    CopiesAgree State.reset ∧ State.reset.retention = none ∧
    CopiesAgree (writing State.reset) ∧
    exec .beatDue (writing State.reset) = .next (after .beatDue (writing State.reset)) ∧
    exec .resetNAssert State.reset = .next (after .resetNAssert State.reset) := by
  refine ⟨?_, rfl, ?_, rfl, rfl⟩ <;> (unfold CopiesAgree; decide +kernel)

/-- Nothing torn with a write of each kind in progress; and a torn head, a torn group, a torn erase, and a
torn selection entry between two intact ones. -/
theorem test_witness_TornRecordsLoad :
    (corridor.retained.intact = true ∧
      ∀ r ∈ eachRecord, ({ corridor with retention := some r } : State).retention = some r) ∧
    let kept := after .resetNAssert { corridor with retention := some (.planState 4 true) }
    let parts := after .resetNAssert { after .resetNAssert { corridor with
      retention := some .geometryHead } with retention := some (.geometryGroup 2) }
    let entry := after .resetNAssert { corridor with retention := some (.selectionEntry 3) }
    (entry.retention = none ∧ entry.retained.selectionTorn[(3 : Fin 16)] = true ∧
      entry.retained.selectionTorn[(2 : Fin 16)] = false ∧
      entry.retained.selectionTorn[(4 : Fin 16)] = false) ∧
    kept.retention = none ∧ kept.retained.plans[(4 : Fin 24)].stateTorn = some .erase ∧
    (corridor.retention = none ∧ corridor.retained.plans[(4 : Fin 24)].headTorn = false ∧
      (∀ g : Fin 3, corridor.retained.plans[(4 : Fin 24)].groupTorn[g] = false) ∧
      corridor.retained.plans[(4 : Fin 24)].stateTorn = none) ∧
    parts.retention = none ∧ parts.retained.headTorn = true ∧
    parts.retained.groupTorn[Fin.ofNat 3 ((11 : Fin 12).val / 4)] = true := by
  refine ⟨⟨by decide +kernel, fun _ _ => rfl⟩, ?_⟩
  decide +kernel

theorem test_witness_StoreChangesByItsOwnCommands :
    exec .beatDue corridor = .next (after .beatDue corridor) ∧
    (∀ pins, Instr.beatDue ≠ .hardwareReset pins) ∧ (∀ pins, Instr.beatDue ≠ .resetUnitTakesEffect pins) ∧
    Instr.beatDue ≠ .retentionComplete ∧ Instr.beatDue ≠ .resetNAssert ∧
    Instr.beatDue ∉ [Instr.writePlanHead, .writePlanGroup, .erasePlan, .checkPlan, .writeGeometryHead,
      .writeGeometryGroup, .checkGeometry, .writeSelection] := by
  refine ⟨rfl, ?_, ?_, ?_, ?_, ?_⟩ <;> simp

/-- Shares 0, 1, 999 and 1000, and a plan whose anchor is junction 0. -/
theorem test_witness_WindowsFollowTheShares :
    plan900.head.anchor = (0 : Junction).val ∧
    plan900.shareOf 4 = 0 ∧ (plan900.shareOf 3 ≠ 0 ∧ plan900.shareOf 3 ≠ 1000) ∧
    ({ plan900 with entries := plan900.entries.set 3 (share 1000) } : PlanRecord).shareOf 3 = 1000 ∧
    (900 * 1 + 500) / 1000 < 100 ∧ 100 ≤ (900 * 999 + 500) / 1000 ∧ 100 ≤ (900 * 111 + 500) / 1000 ∧
    (3 : Junction).val < junctionCount corridor := by
  decide +kernel

theorem test_witness_LinkSpeedsAndTimes : 0 < 15 ∧ 2 + 1 < snapshot.n := by decide +kernel

/-- A forward difference, a backward one, and the bias at its limits. -/
theorem test_witness_TargetsLieInTheCycle :
    0 < snapshot.c ∧ snapshot.bias ≤ 100 ∧
    0 ≤ circularDifference snapshot.c (snapshot.idealIn 3) (snapshot.idealOut 3) ∧
    circularDifference snapshot.c (snapshot.idealIn 1) (snapshot.idealOut 1) < 0 ∧
    ({ snapshot with bias := 100 } : Snapshot).bias = 100 ∧
    ({ snapshot with bias := 0 } : Snapshot).bias = 0 := by
  decide +kernel

theorem test_witness_BandwidthIsTheWidestBand :
    0 < snapshot.c ∧ (∀ w ∈ [(0, 495), (899, 900)], w.1 < 900 ∧ w.2 ≤ 900) ∧
    [(0, 495), (899, 900)] ≠ ([] : List (Nat × Nat)) ∧ 899 < 900 ∧
    ((899 : Nat) : Int) % ((900 : Nat) : Int) < 900 ∧ (495 : Int) ≤ ((495 : Nat) - (0 : Nat) : Int) % 900 ∧
    0 < snapshot.n := by
  decide +kernel

/-- In RUN, in HOLD, and in ENTERING with a result that is marked and with one for a plan that is no longer
the entry plan. -/
theorem test_witness_ComputationCompletes :
    let s := computing corridor 5 .active
    let h := computing holding 5 .entry
    let w := computing switching 9 .pending
    let v := { s with engine := { s.engine with void := true } }
    let marked := { computing entering 5 .entry with
      engine := { (computing entering 5 .entry).engine with void := true, again := true } }
    let other := computing entering 9 .entry
    (s.inReset = false ∧ s.causeRaised = false ∧ s.timebase.mode ≠ .entering ∧
      s.engine.computing = some (takeSnapshot corridor 5 .active) ∧ s.engine.void = false ∧
      computingPlan s = some 5 ∧ s.timebase.pendingPlan = 0) ∧
    (w.engine.computing = some (takeSnapshot switching 9 .pending) ∧ w.engine.void = false ∧
      computingPlan w = some 9 ∧ w.timebase.pendingPlan ≠ 0) ∧
    (v.engine.void = true ∧ computingRole v = some (5, .active)) ∧
    (h.engine.computing = some (takeSnapshot holding 5 .entry) ∧ h.timebase.mode = .hold ∧
      h.timebase.mode ≠ .entering) ∧
    (marked.inReset = false ∧ marked.causeRaised = false ∧ marked.timebase.mode = .entering ∧
      marked.engine.computing = some (takeSnapshot entering 5 .entry) ∧ marked.engine.void = true ∧
      marked.engine.again = true) ∧
    (other.timebase.mode = .entering ∧ other.engine.void = false ∧ computingPlan other = some 5 ∧
      other.engine.computing.map Snapshot.plan = some 9) := by
  decide +kernel

/-- Each row of R79 at a case. -/
theorem test_witness_SeekerChoosesTheCorrection :
    let still := { head900 with dwellPct := 0, shortPct := 0 }
    let w : FixedWindow := { gEff := 540, full := false }
    0 < 900 ∧ 0 < head900.c ∧ 899 < head900.c ∧ (maxLen still = 0 ∧ maxShort still w = 0) ∧
    (maxLen { still with shortPct := 30 } = 0 ∧ maxShort { still with shortPct := 30 } w ≠ 0) ∧
    (maxLen { still with dwellPct := 50 } ≠ 0 ∧ maxShort { still with dwellPct := 50 } w = 0) ∧
    (maxLen head900 ≠ 0 ∧ maxShort head900 w ≠ 0) ∧
    (head900.c - 899 + maxShort head900 w - 1) / maxShort head900 w <
      (899 + maxLen head900 - 1) / maxLen head900 ∧
    (1 + maxLen head900 - 1) / maxLen head900 ≤
      (head900.c - 1 + maxShort head900 w - 1) / maxShort head900 w := by
  decide

theorem test_witness_SeekerKeepsItsBounds :
    let w : FixedWindow := { gEff := 750, full := false }
    0 < head900.c ∧ 357 < head900.c ∧ 899 < head900.c ∧ head900.shortPct < 100 ∧
    w.full = false ∧ 0 < w.gEff ∧ w.gEff + head900.sMin ≤ head900.c ∧
    ({ gEff := 900, full := true } : FixedWindow).full = true ∧
    (seekChoice head900 { gEff := 540, full := false } (seekError 900 357 157)).seek = .lengthen ∧
    (seekChoice head900 { gEff := 540, full := false } (seekError 900 100 157)).seek = .shorten ∧
    (seekChoice head900 { gEff := 540, full := false } (seekError 900 357 557)).seek = .shorten := by
  decide

theorem test_witness_HoldReleased :
    ([Request.releaseHold 0, .releaseHold 5, .releaseHold 6, .releaseHold 25].all (fun r =>
      admittedFromCentre holding r && admittedFromCentre corridor r) = true) ∧
    ¬ PlanNumber 0 ∧ ¬ PlanNumber 25 ∧ corridor.timebase.mode ≠ .hold ∧ holding.timebase.mode = .hold ∧
    PlanReady holding 4 ∧ ¬ PlanReady holding 5 := by
  unfold PlanNumber PlanReady
  decide +kernel

/-- In each mode; with a steer, a beat and an OUTCOME frame in flight, and with none; and with a beat that
waits. -/
theorem test_witness_HoldEntered :
    let steer := steerOf corridor 1 .none 0
    let outcome : OutcomeFrame :=
      { dest := 2, junction := 1, direction := .inbound, tag := 371, outcome := .expired }
    let free := { corridor with line := { corridor.line with state := .free } }
    let waits := { corridor with line := { corridor.line with beat := some ⟨9, 0⟩ } }
    ([holding, entering, corridor, listedA, flying (.beat 9) 0, flying (.steer steer) 3,
      flying (.queued (.outcome outcome)) 0, free, waits].all (admittedFromCentre · .enterHold) = true) ∧
    (∃ f, (flying (.steer steer) 3).line.inFlight = some f ∧ f.item = .steer steer) ∧
    (∃ f, (flying (.beat 9) 0).line.inFlight = some f ∧ ∀ st, f.item ≠ .steer st) ∧
    holding.timebase.mode = .hold ∧ entering.timebase.mode ≠ .hold ∧ corridor.timebase.mode ≠ .hold ∧
    (flying (.beat 9) 0).line.inFlight ≠ none ∧ (free.line.state = .free ∧ free.line.beat = none) ∧
    waits.line.state ≠ .free ∧ waits.line.beat.isSome = true ∧ waits.line.inFlight = none := by
  refine ⟨by decide +kernel, ⟨_, rfl, rfl⟩, ⟨_, rfl, fun st h => by simp at h⟩, ?_⟩
  decide +kernel

theorem test_witness_CorridorEntersRun :
    let s := computing entering 5 .entry
    let pinned := fun q => { s with selector := { s.selector with planPin := some q } }
    let owed := { s with engine := { s.engine with again := true } }
    let waits := { s with line := { s.line with
      beat := some ⟨8, 0⟩
      steers := [4, 1].map fun j : Junction => { steer := steerOf corridor j .none 0, losses := 0 } } }
    (waits.engine = s.engine ∧ waits.timebase = s.timebase ∧ waits.line.beat.isSome = true ∧
      (waits.line.steers.map fun w => w.steer.junction) = [4, 1] ∧ [(4 : Junction), 1].Nodup ∧
      junctionCount waits = 4) ∧ s.line.beat.isSome = false ∧
    (s.inReset = false ∧ s.causeRaised = false ∧ s.timebase.mode = .entering ∧
      s.engine.computing = some (takeSnapshot entering 5 .entry) ∧ s.engine.void = false ∧
      (takeSnapshot entering 5 .entry).plan = s.timebase.entry) ∧
    (s.selector.planPin = none ∧ s.engine.again = false ∧ owed.engine.again = true) ∧
    ((pinned 9).selector.planPin = some 9 ∧ ready (pinned 9) 9 = true ∧ ready (pinned 6) 6 = false) ∧
    (3 : Junction).val < junctionCount s ∧ (3 : Junction).val < (takeSnapshot entering 5 .entry).n ∧
    junctionCount s ≤ (4 : Junction).val := by
  decide +kernel

theorem test_witness_BoundaryTestsForSwitch :
    (switching.inReset = false ∧ switching.causeRaised = false ∧ switching.due.boundary = true ∧
      switching.timebase.mode = .run ∧ switching.timebase.pendingPlan = (8 : Fin 24).val + 1 ∧
      switching.engine.pendingSet = some { set58 with plan := 9, generation := 59 } ∧
      (switching.priority.list.map fun e => (e.junction, e.tag)).Nodup) ∧
    (let s := { corridor with due := { Due.nothing with boundary := true } };
      s.due.boundary = true ∧ s.timebase.pendingPlan = 0) ∧
    ({ switching.selector with biasPin := some 95 } : Selector).biasPin = some 95 := by
  decide +kernel

/-- On a FREE line, with no entry for junction 3 and with one that waits for it. -/
theorem test_witness_LocalZeroFixesCycle :
    let s := { freed corridor with due := { Due.nothing with localZero := Due.nothing.localZero.set 3 true } }
    let w := { s with priority := { s.priority with list := [{ entryA with junction := 3 }] } }
    s.inReset = false ∧ s.line.state = .free ∧ s.causeRaised = false ∧ s.due.localZero[(3 : Junction)] = true ∧
    s.engine.active = some set58 ∧ set58.entries[(3 : Junction).val]? = some
      { target := 357, cls := .windowed, g := 540, gEff := 540, constraining := true } ∧
    (s.line.inFlight = none ∧ s.line.beat = none ∧ s.line.steers = [] ∧ s.line.replies = []) ∧
    (∀ x ∈ s.priority.list, x.junction ≠ 3) ∧ w.due.localZero[(3 : Junction)] = true ∧
    w.engine.active = some set58 ∧ w.causeRaised = false ∧ ¬ ∀ x ∈ w.priority.list, x.junction ≠ 3 := by
  decide +kernel

/-- With no entry for junction 1, and with one that waits for it. -/
theorem test_witness_WindowCloses :
    let s := atCycle (extended 490)
    let w := { s with priority := listedA.priority }
    (s.inReset = false ∧ s.causeRaised = false ∧ s.timebase.mode = .run ∧
      s.cycles[(1 : Junction)].windowOpen = true ∧ s.cycles[(1 : Junction)].full = false ∧
      s.cycles[(1 : Junction)].windowEnd ≤ s.cycles[(1 : Junction)].lc ∧
      ∀ x ∈ s.priority.list, x.junction ≠ 1) ∧
    (w.cycles = s.cycles ∧ w.timebase.mode = .run ∧ ¬ ∀ x ∈ w.priority.list, x.junction ≠ 1) ∧
    (atCycle { cycle450 with full := true }).cycles[(1 : Junction)].full = true ∧
    (atCycle { cycle450 with windowOpen := false }).cycles[(1 : Junction)].windowOpen = false ∧
    (atCycle { cycle450 with lc := 449 }).cycles[(1 : Junction)].lc <
      (atCycle { cycle450 with lc := 449 }).cycles[(1 : Junction)].windowEnd := by
  decide +kernel

theorem test_witness_BeatQueued :
    let s := { freed corridor with due := { Due.nothing with beat := true } }
    s.inReset = false ∧ s.due.beat = true ∧ s.line.state = .free ∧ s.line.inFlight = none := by
  decide +kernel

/-- In RUN with the divider running and stopped, and in HOLD. -/
theorem test_witness_DecisecondAdvances :
    (corridor.inReset = false ∧ ¬ EventStands corridor ∧ corridor.timebase.mode = .run ∧
      corridor.timebase.divider = some 5 ∧ (3 : Junction).val < junctionCount corridor ∧
      junctionCount corridor ≤ (4 : Junction).val) ∧
    (let s := { corridor with timebase := { corridor.timebase with divider := none } };
      ¬ EventStands s ∧ s.timebase.divider = none) ∧
    holding.inReset = false ∧ ¬ EventStands holding ∧ holding.timebase.mode ≠ .run := by
  simp only [← somethingDue_iff]
  decide +kernel

theorem test_witness_TimebaseSafeKept :
    exec .cycleBoundary State.reset = .next (after .cycleBoundary State.reset) ∧
    TimebaseSafe State.reset := by
  refine ⟨rfl, ?_⟩
  unfold TimebaseSafe StoredInRange FieldsInRange GeometryHeadRanges GeometryEntryRanges PlanHeadRanges
    PlanEntryRanges SelectionEntryRanges
  refine ⟨?_, rfl, rfl, rfl, rfl, rfl, rfl, rfl⟩
  refine ⟨⟨?_, ?_, fun p => ⟨?_, ?_⟩, ?_⟩, ?_, ?_, fun p => ⟨?_, ?_⟩, ?_⟩ <;>
    first | decide +kernel | (revert p; decide +kernel)

theorem test_witness_PlanPinned :
    ([Request.pinPlan 0, .pinPlan 5, .pinPlan 6, .pinPlan 9, .pinPlan 24, .pinPlan 25].all (fun r =>
      admittedFromCentre holding r && admittedFromCentre entering r && admittedFromCentre corridor r &&
      admittedFromCentre switching r) = true) ∧
    24 < 25 ∧ entering.timebase.mode = .entering ∧ corridor.timebase.mode ≠ .entering ∧
    PlanReady corridor 4 ∧ PlanReady corridor 8 ∧ ¬ PlanReady corridor 23 ∧
    corridor.timebase.pendingPlan ≠ corridor.timebase.active ∧
    switching.timebase.pendingPlan ≠ switching.timebase.active ∧
    switching.timebase.active = 5 ∧ switching.timebase.pendingPlan = 9 := by
  unfold PlanReady
  decide +kernel

theorem test_witness_BiasPinned :
    ([Request.pinBias 0, .pinBias 100, .pinBias 101, .pinBias 254, .pinBias 255].all (fun r =>
      admittedFromCentre holding r && admittedFromCentre entering r && admittedFromCentre switching r)
      = true) ∧
    holding.timebase.mode = .hold ∧
    (entering.timebase.mode = .entering ∧ entering.timebase.entry = (4 : Fin 24).val + 1) ∧
    (switching.timebase.mode = .run ∧ switching.timebase.active = (4 : Fin 24).val + 1 ∧
      switching.timebase.pendingPlan ≠ 0) := by
  decide +kernel

/-- With a match that waits, one that is proposed, one that is active, none, and with a plan pin. -/
theorem test_witness_SelectorEvaluates :
    let due := fun s : State => { s with selector := { s.selector with evalTimer := some 0 } }
    let table := fun e : SelectionEntry =>
      { due corridor with store := { corridor.store with selection := Vector.replicate 16 e } }
    let any := { table1 with low := 0, high := 1000, dominance := .any }
    (AtRest (due corridor) ∧ (due corridor).inReset = false ∧ (due corridor).timebase.mode = .run ∧
      (due corridor).selector.evalTimer = some 0 ∧ ¬ EntryMatches (due corridor) .blank) ∧
    (EntryMatches (table any) any ∧ EntryMatches (table { any with plan := 5 }) { any with plan := 5 }) ∧
    (due corridor).selector.planPin = none ∧ (due corridor).selector.biasPin = none := by
  unfold AtRest EntryMatches PlanReady
  decide +kernel

/-- The first entry that matches is the match. -/
theorem test_witness_FirstMatch :
    let e := { table1 with low := 0, high := 1000, dominance := .any }
    let s := { corridor with store := { corridor.store with selection := Vector.replicate 16 e } }
    FirstMatch s e ∧ ¬ ∃ e, FirstMatch corridor e := by
  refine ⟨⟨0, rfl, ?_, fun k hk => absurd hk (Nat.not_lt_zero _)⟩, ?_⟩
  · unfold EntryMatches PlanReady
    decide +kernel
  · rintro ⟨e, i, rfl, h, -⟩
    revert i
    unfold EntryMatches PlanReady
    decide +kernel

theorem test_witness_DemandIndicesAndTarget :
    let s := { corridor with demand := { corridor.demand with
      junctions := Vector.replicate 12 { sIn := 55, sOut := 45, inVolume := 0, outVolume := 0 } } }
    let held := { holding with demand := s.demand }
    (held.timebase.mode = .hold ∧ held.timebase.active = 0 ∧ demandIn held = 55 ∧ demandOut held = 45) ∧
    countedJunctions State.reset = [] ∧ corridor.timebase.active = (4 : Fin 24).val + 1 ∧
    demandIn corridor + demandOut corridor = 0 ∧ s.timebase.active = (4 : Fin 24).val + 1 ∧
    0 < demandIn s + demandOut s := by
  decide +kernel

theorem test_witness_PinsLapse :
    let set := fun (lapse silence : Nat) (s : State) => { s with
      store := { s.store with geometry := { geometry4 with
        head := { geometry4.head with pinLapse := lapse } } }
      selector := { s.selector with biasPin := some 80, silence } }
    (let s := set 0 600 corridor;
      s.inReset = false ∧ s.causeRaised = false ∧ s.store.geometry.head.pinLapse = 0) ∧
    (let s := set 120 72000 corridor;
      s.store.geometry.head.pinLapse ≠ 0 ∧
      s.selector.silence = 600 * s.store.geometry.head.pinLapse ∧ s.selector.biasPin.isSome = true ∧
      s.timebase.mode = .run ∧ s.timebase.active = (4 : Fin 24).val + 1) ∧
    (let s := set 1 600 entering;
      s.selector.silence = 600 * s.store.geometry.head.pinLapse ∧ s.timebase.mode = .entering ∧
      s.timebase.entry = (4 : Fin 24).val + 1) ∧
    (set 1 600 holding).timebase.mode = .hold ∧
    (set 1 599 corridor).selector.silence ≠ 600 * (set 1 599 corridor).store.geometry.head.pinLapse ∧
    (corridor.selector.planPin = none ∧ corridor.selector.biasPin = none) := by
  decide +kernel

theorem test_witness_ReportTaken :
    let r := Request.report ⟨700, 100, 3, 4, false, true, false⟩
    let s := fromStation 2 r corridor
    let full := fromStation 2 r { corridor with roster := rosterWith 2 { linked with reports := 2 } }
    (Admits s (stationTaken 2 r) r ∧ AtRest s ∧ s.roster.junctions[(2 : Junction)].reports < 2) ∧
    (Admits full (stationTaken 2 r) r ∧ AtRest full ∧ 2 ≤ full.roster.junctions[(2 : Junction)].reports) ∧
    (stationTaken 2 r).sender = .junction 2 := by
  unfold Admits AtRest
  decide +kernel

/-- The lines for which SteerQueued gives the STEER queue: one that is not FREE, one with a frame in flight,
and a FREE one on which no steer waits. -/
theorem test_witness_SteerQueued :
    corridor.line.state ≠ .free ∧ (flying (.beat 9) 0).line.inFlight ≠ none ∧
    (freed corridor).line.state = .free ∧ (freed corridor).line.inFlight = none ∧
    (freed corridor).line.steers = [] := by
  decide +kernel

/-- One junction enters LOST, one DEGRADED, the others stay; two enter LOST at once; none does. -/
theorem test_witness_PeriodEndsForEveryJunction :
    let at1 := fun r2 r3 : RosterEntry => { corridor with
      due := { Due.nothing with periodEnd := true }
      roster := { corridor.roster with junctions := (((corridor.roster.junctions.set 2 r2).set 3 r3).set 1
        { linked with misses := 1 }) } }
    let s := at1 { linked with misses := 14 } linked
    let both := at1 { linked with misses := 4 } { linked with state := .silent, misses := 4 }
    (s.inReset = false ∧ AtRest s ∧ s.due.periodEnd = true ∧ (∀ i, EntersLost s i ↔ i = 2)) ∧
    (¬ EntersLost s 1 ∧ s.roster.junctions[(1 : Junction)].state = .linked) ∧
    (both.inReset = false ∧ AtRest both ∧ both.due.periodEnd = true ∧
      [(2 : Junction), 3].Pairwise (· < ·) ∧ ∀ j, j ∈ [(2 : Junction), 3] ↔ EntersLost both j) ∧
    (∀ j, ¬ EntersLost { corridor with due := { Due.nothing with periodEnd := true } } j) ∧
    junctionCount s ≤ (4 : Junction).val := by
  unfold AtRest EntersLost
  decide +kernel

theorem test_witness_CallListed :
    let call := fun (j tag : Nat) (d : Direction) => Request.priorityCall ⟨j, d, tag, 70⟩
    let full := { corridor with priority := { corridor.priority with
      list := (List.range 8).map fun i => { entryA with junction := 0, tag := i + 1 } } }
    let acted := atCycle { cycle450 with actionTaken := true }
    ([call 1 371 .inbound, call 1 0 .inbound, call 4 371 .inbound, call 3 371 .outbound].all (fun r =>
      admittedFromCentre corridor r && admittedFromCentre full r && admittedFromCentre acted r &&
      admittedFromCentre holding r) = true) ∧
    (junctionCount corridor ≤ 4 ∧ (3 : Junction).val < junctionCount corridor ∧
      holding.timebase.mode ≠ .run ∧ corridor.timebase.mode = .run ∧
      permits (corridor.store.plan corridor.timebase.active) 3 .outbound = false ∧
      permits (corridor.store.plan corridor.timebase.active) 1 .inbound = true) ∧
    (full.priority.list.length = 8 ∧ (∀ e ∈ full.priority.list, e.junction ≠ 1) ∧
      corridor.roster.junctions[(1 : Junction)].state ≠ .lost ∧
      corridor.roster.junctions[(1 : Junction)].following = true ∧
      ({ corridor with roster := rosterWith 1 { linked with following := false } }).roster.junctions[
        (1 : Junction)].following = false) ∧
    ¬ MayGrant acted 1 ∧ MayGrant corridor 1 ∧ acted.priority.list.length < 8 ∧
    (∃ e ∈ listedA.priority.list, e.junction = 1 ∧ e.tag = 371) := by
  unfold MayGrant
  decide +kernel

/-- Arrivals at, and one beyond, each limit of R128; and an evaluation that grants a vehicle 50 ds away NONE,
one 51 ds away EXTEND 21, and leaves one 40 ds away behind them and one of another junction waiting. -/
theorem test_witness_EvaluationDecides :
    let c := cycle450
    let shut := { cycle450 with lc := 700, windowOpen := false }
    let call := fun (j : Junction) (tag due : Nat) => { entryA with junction := j, tag, due }
    let s := { corridor with priority := { clock := 10400, list :=
      [call 1 1 10450, call 2 2 10450, call 1 3 10651, call 1 4 10451, call 1 5 10440] } }
    (c.windowOpen = true ∧ c.full = false ∧ 50 ≤ c.windowEnd - c.lc ∧ c.windowEnd - c.lc < 51 ∧
      0 < head900.xMax ∧ 150 ≤ c.windowEnd - c.lc + head900.xMax ∧
      c.windowEnd - c.lc + head900.xMax < 151) ∧
    (shut.windowOpen = false ∧ 0 < shut.gEff ∧ 199 < shut.lcur - shut.lc ∧ shut.lcur - shut.lc ≤ 200 ∧
      (1 : Int) ≤ min (head900.eMax : Int) (min ((shut.lcur : Int) - shut.lc - 199)
        ((shut.lcur : Int) - max (shut.lc + 1) (shut.windowEnd + head900.sMin)))) ∧
    (s.priority.list.map fun e => (e.junction, e.tag)).Nodup ∧ MayGrant s 1 ∧ ¬ MayGrant holding 1 ∧
    ((grantsMade s 1).map fun g => (g.1.tag, g.2)) =
      [(1, .granted .none 0), (4, .granted .extend 21)] ∧
    (evaluate 1 s).priority.list.map PriorityEntry.tag = [2, 3, 5] ∧
    (evaluate 1 s).cycles[(1 : Junction)].windowEnd = 471 := by
  unfold MayGrant
  decide +kernel

theorem test_witness_CallGranted :
    let r := fun eta => Request.priorityCall ⟨1, .inbound, 371, eta⟩
    let shut := atCycle { cycle450 with lc := 700, windowOpen := false }
    ([r 50, r 51, r 151, r 65535].all (fun r => admittedFromCentre corridor r) = true) ∧
    admittedFromCentre shut (r 199) = true ∧
    (∀ s ∈ [corridor, shut], (1 : Junction).val < junctionCount s ∧ MayGrant s 1 ∧
      permits (s.store.plan s.timebase.active) 1 .inbound = true ∧
      s.roster.junctions[(1 : Junction)].state ≠ .lost ∧ s.priority.list.length < 8 ∧
      (∀ e ∈ s.priority.list, e.junction ≠ 1) ∧ s.priority.clock < 4294967296) ∧
    decideEntry head900 cycle450 50 = .serve ∧ decideEntry head900 cycle450 51 = .extend 21 ∧
    decideEntry head900 cycle450 151 = .wait ∧
    decideEntry head900 { cycle450 with lc := 700, windowOpen := false } 199 = .early 1 := by
  unfold MayGrant
  decide +kernel

theorem test_witness_CancelWithdrawsOrCuts :
    let cancel := fun j tag => Request.priorityCancel ⟨j, tag⟩
    let early := atCycle (extended 449)
    let late := atCycle (extended 450)
    ([cancel 1 371, cancel 1 372, cancel 1 0, cancel 4 371].all (fun r => admittedFromCentre listedA r &&
      admittedFromCentre early r && admittedFromCentre late r) = true) ∧
    (entryA ∈ listedA.priority.list ∧ entryA.junction = 1 ∧ entryA.tag = 371 ∧
      ∀ e ∈ listedA.priority.list, e.junction = 1 ∧ e.tag = 371 → e = entryA) ∧
    (junctionCount listedA ≤ 4 ∧ (∀ e ∈ early.priority.list, ¬(e.junction = 1 ∧ e.tag = 371)) ∧
      early.cycles[(1 : Junction)].extension = some ⟨371, 40⟩ ∧
      early.cycles[(1 : Junction)].lc < early.cycles[(1 : Junction)].gEff ∧
      late.cycles[(1 : Junction)].gEff ≤ late.cycles[(1 : Junction)].lc ∧
      late.cycles[(1 : Junction)].actionTaken = true) := by
  decide +kernel

theorem test_witness_EntryExpires :
    let at1 := fun clock => { listedA with priority := { clock, list := [entryA] } }
    ((at1 11000).inReset = false ∧ entryA ∈ (at1 11000).priority.list ∧
      (∀ e' ∈ (at1 11000).priority.list, e'.junction = entryA.junction → e'.tag = entryA.tag →
        e' = entryA) ∧ (at1 11000).priority.clock < 4294967296 ∧
      entryA.expiry = (at1 11000).priority.clock) ∧
    entryA.expiry = ((at1 10999).priority.clock + 1) % 4294967296 ∧
    entryA.expiry = ((at1 9800).priority.clock + 1200) % 4294967296 := by
  decide +kernel

theorem test_witness_PriorityListKept :
    PriorityBounded listedA ∧ exec .periodEnd listedA = .next (after .periodEnd listedA) := by
  refine ⟨?_, rfl⟩
  unfold PriorityBounded
  decide +kernel

/-- A frame cut short that names the unit, one that does not, and one that the unit itself sends. -/
theorem test_witness_LineStateFollowsLevels :
    let at1 := fun st : LineState => { corridor with line := { corridor.line with state := st } }
    let sending : InFlight :=
      { item := .beat 9, losses := 0, orphaned := false, chars := [0x01#8, 0x10#8, 0x80#8] }
    let own := { at1 .busy with line := { (at1 .busy).line with inFlight := some sending } }
    corridor.inReset = false ∧ (at1 .free).line.state ≠ .busy ∧ (at1 .busy).line.state = .busy ∧
    (at1 .free).line.state = .free ∧ (at1 .fault).line.state = .fault ∧
    Takes (at1 .busy) [0x01#8, 0x10#8] ∧ assemble [0x01#8, 0x10#8] = .incomplete ∧
    ¬ Takes (at1 .busy) [0x11#8, 0x10#8] ∧ ¬ Takes own [0x01#8, 0x10#8] ∧
    Takes own [0x01#8, 0x11#8] := by
  simp only [← takesFrame_iff]
  decide +kernel

/-- Each row of R155. -/
theorem test_witness_LineChoosesAFrame :
    let w : WaitingSteer := { steer := steerOf corridor 1 .none 0, losses := 0 }
    let r : WaitingReply :=
      { item := .reply { dest := 2, seq := 0x03#8, code := .ok, result := [] }, losses := 0 }
    let line := fun (beat : Option WaitingBeat) (steers : List WaitingSteer)
        (replies : List WaitingReply) (credit : Nat) => { corridor with line :=
      { corridor.line with beat, steers, replies, steerCredit := credit, replyCredit := credit } }
    (corridor.inReset = false ∧ corridor.line.state = .busy ∧ corridor.line.inFlight = none ∧
      (flying (.beat 9) 0).line.inFlight ≠ none) ∧
    (line (some ⟨9, 0⟩) [w] [r] 1).line.beat = some ⟨9, 0⟩ ∧
    ((line none [w] [r] 1).line.beat = none ∧ (line none [w] [r] 1).line.steers = w :: [] ∧
      0 < (line none [w] [r] 1).line.steerCredit) ∧
    ((line none [] [r] 1).line.replies = r :: [] ∧ (line none [] [r] 1).line.steers = [] ∧
      0 < (line none [] [r] 1).line.replyCredit) ∧
    ((line none [w] [r] 0).line.steerCredit = 0 ∧ (line none [w] [r] 0).line.replyCredit = 0) ∧
    (line none [] [r] 0).line.steers = [] ∧ (line none [] [] 0).line.replies = [] := by
  decide +kernel

/-- A command that queues a frame on a FREE line with nothing waiting, and the end of the unit's own frame
on a BUSY one. -/
theorem test_witness_LineChoosesAFrame_kept :
    let s := { freed corridor with due := { Due.nothing with beat := true } }
    let b := flying (.beat 9) 0
    exec .beatDue s = .next (after .beatDue s) ∧ LineGoes s ∧ s.line.state = .free ∧
    exec .frameComplete b = .next (after .frameComplete b) ∧ LineGoes b ∧ b.line.state ≠ .free :=
  ⟨rfl, fun _ _ _ => by decide +kernel, rfl, rfl, fun _ _ h => by simp [flying] at h,
    by decide +kernel⟩

/-- The last loss below 16 and the sixteenth, each kind of frame, and what waits against it. -/
theorem test_witness_FrameLeavesTheLine :
    let f : InFlight := { item := .beat 9, losses := 14, orphaned := false, chars := [] }
    let w : WaitingSteer := { steer := steerOf corridor 1 .none 0, losses := 0 }
    (corridor.inReset = false ∧ (flying (.beat 9) 14).line.inFlight = some f ∧ f.losses < 15 ∧
      15 ≤ ({ f with losses := 15 } : InFlight).losses ∧
      ({ f with orphaned := true } : InFlight).orphaned = true) ∧
    (flying (.beat 9) 14).line.beat = none ∧
    (∀ x ∈ (flying (.steer w.steer) 14).line.steers, x.steer.junction ≠ w.steer.junction) ∧
    (∃ x ∈ [w], x.steer.junction = w.steer.junction) ∧ (some ⟨10, 0⟩ : Option WaitingBeat) ≠ none := by
  decide +kernel

/-- A frame that the unit takes, one for another station, and its own; a full queue; and for each fault
characters that show it and characters that do not. -/
theorem test_witness_FramesReceivedOrDiscarded :
    let f := (Request.pinBias 80).frame 16 0 7
    let bad := f.body ++ [0x93#8, 0x00#8]
    let four := { corridor with line := { corridor.line with rx := [f, f, f, f] } }
    let sending : InFlight := { item := .beat 9, losses := 0, orphaned := false, chars := f.chars }
    let own := { corridor with line := { corridor.line with inFlight := some sending } }
    (corridor.inReset = false ∧ f.payload.length ≤ 24 ∧ Takes corridor f.chars ∧
      Takes corridor bad ∧ ¬ Takes own f.chars ∧ Takes own bad ∧
      ¬ Takes corridor ((Request.pinBias 80).frame 17 0 7).chars ∧
      [0x93#8, 0x00#8] ≠ char2 (checkWord f.body)) ∧
    (corridor.line.rx.length < 4 ∧ 4 ≤ four.line.rx.length ∧ corridor.centre.rx.length < 4) ∧
    (FaultShown [] 0 .framing ∧ ¬ FaultShown [] 0 .brokenFrame ∧
      FaultShown (f.chars.take 7) 0 .framing ∧ FaultShown (f.chars.take 7) 0 .brokenFrame ∧
      ¬ FaultShown f.chars 0 .framing ∧
      FaultShown [0x01#8, 0x00#8, 0x39#8, 0x07#8, 0x19#8] 0 .length ∧
      ¬ FaultShown [0x01#8, 0x00#8, 0x39#8, 0x07#8, 0x18#8] 0 .length ∧
      FaultShown bad 0 .check ∧ ¬ FaultShown f.chars 0 .check ∧
      FaultShown f.chars 4 .overrun ∧ ¬ FaultShown f.chars 3 .overrun) := by
  simp only [← takesFrame_iff, ← faultStands_iff]
  decide +kernel

theorem test_witness_CentreTransmitterGoesOn :
    let r : Reply := { dest := 0, seq := 0x07#8, code := .ok, result := [] }
    let n : Notice := { seq := 4, body := .lineState .fault }
    let s := fun (replies : List Reply) (notices : List Notice) (reset : Option PendingReset) =>
      { corridor with
        centre := { corridor.centre with sending := some (.reply r []), replies, notices }
        handler := { corridor.handler with reset } }
    ((s [r] [n] none).inReset = false ∧ (s [r] [n] none).centre.sending = some (.reply r []) ∧
      (s [r] [n] none).handler.reset = none ∧ (s [r] [n] none).centre.replies = r :: []) ∧
    ((s [] [n] none).centre.replies = [] ∧ (s [] [n] none).centre.notices = n :: []) ∧
    ((s [] [] none).centre.replies = [] ∧ (s [] [] none).centre.notices = []) ∧
    ((s [r] [n] (some ⟨true, false⟩)).handler.reset = some ⟨true, false⟩ ∧
      (s [r] [n] (some ⟨true, false⟩)).centre.replies = r :: []) ∧
    (s [] [n] (some ⟨true, false⟩)).handler.reset = some ⟨true, false⟩ := by
  decide +kernel

/-- An idle centre link with nothing waiting, and a command that queues a notice. -/
theorem test_witness_CentreTransmitterGoesOn_kept :
    CentreGoes corridor ∧ exec .lineFault corridor = .next (after .lineFault corridor) ∧
    (after .lineFault corridor).centre.sending ≠ none :=
  ⟨⟨fun _ _ _ => by decide +kernel, fun _ _ h => absurd h (by simp [corridor, holding, State.reset, Centre.initial]),
    fun _ _ h => absurd h (by simp [corridor, holding, State.reset, Centre.initial]),
    fun _ h => absurd h (by simp [corridor, holding, State.reset, Handler.initial])⟩,
    rfl, by decide +kernel⟩

theorem test_witness_PortsBoundedKept :
    PortsBounded State.reset ∧ exec .lineFault State.reset = .next (after .lineFault State.reset) := by
  refine ⟨⟨?_, ?_⟩, rfl⟩
  · constructor <;> first | decide | (constructor <;> decide)
  · constructor <;> first | decide | (constructor <;> decide)

/-- A start that AUTO takes and one that HOLD leaves. -/
theorem test_witness_HardwareResetRestarts :
    let kept := { Retained.blank with
      geometry := { geometry4 with head := { geometry4.head with startPlan := 5 } }
      plans := Retained.blank.plans.set 4 { RetainedPlan.blank with record := plan900 } }
    let loaded := loadStore (tearWrite kept none)
    (loaded.geometry.head.startPlan = (4 : Fin 24).val + 1 ∧ loaded.plans[(4 : Fin 24)].state = .checked ∧
      loaded.geometry.state = .valid ∧ loaded.plans[(4 : Fin 24)].stamp = loaded.geometry.stamp) ∧
    ({ Straps.lowest with start := .auto } : Straps).start = .auto ∧ Straps.lowest.start ≠ .auto ∧
    (let s := { corridor with
        straps := { Straps.lowest with addrHi := .vdd, addrLo := .pulledUp, rate := .vdd } };
      unitAddress s = 30 ∧ lineRate s = 57600) ∧
    (let s := { corridor with inReset := true };
      s.inReset = true ∧ exec .beatDue s = .next (after .beatDue s)) := by
  refine ⟨by decide +kernel, by decide, by decide, by decide, ?_, ?_⟩ <;> rfl

theorem test_witness_UnitResetWaitsForItsReply :
    ([Request.resetUnit false, .resetUnit true].all (admittedFromCentre corridor) = true) ∧
    (let s := fun (relatch done : Bool) =>
        { corridor with handler := { corridor.handler with reset := some ⟨relatch, done⟩ } };
      (s true true).inReset = false ∧ (s true true).handler.reset = some ⟨true, true⟩ ∧
      (s false false).handler.reset = some ⟨false, false⟩ ∧ (s false false).centre.sending = none) := by
  decide +kernel

theorem test_witness_EngineResets :
    let steer := steerOf corridor 1 .none 0
    ([holding, entering, listedA, flying (.steer steer) 3, flying (.beat 9) 0].all
      (admittedFromCentre · .resetEngine) = true) ∧
    (∃ f, (flying (.steer steer) 3).line.inFlight = some f ∧ f.item = .steer steer) ∧
    (∃ f, (flying (.beat 9) 0).line.inFlight = some f ∧ ∀ st, f.item ≠ .steer st) := by
  refine ⟨by decide +kernel, ⟨_, rfl, rfl⟩, ⟨_, rfl, fun st h => by simp at h⟩⟩

end Sys2Proof.Tests
end

section
/-! Requests at the Plan Store: what a request that reaches its block yields, and what the tests of the
refusals say in the terms of the tables. -/

namespace Sys2Proof.Machine

open Sys2Proof

/-! ### Ranges (R3, R9, R18) -/

@[simp] theorem within_iff (lo hi v : Nat) : within lo hi v = true ↔ lo ≤ v ∧ v ≤ hi := by
  simp [within]

theorem isPlan_iff (p : Nat) : isPlan p = true ↔ PlanNumber p := by
  simp [isPlan, PlanNumber]

theorem planHeadInRange_iff (h : PlanHead) : planHeadInRange h = true ↔ PlanHeadRanges h := by
  simp [planHeadInRange, PlanHeadRanges, and_assoc]

theorem planEntryInRange_iff (e : PlanEntry) : planEntryInRange e = true ↔ PlanEntryRanges e := by
  simp [planEntryInRange, PlanEntryRanges, and_assoc]

theorem geometryHeadInRange_iff (h : GeometryHead) :
    geometryHeadInRange h = true ↔ GeometryHeadRanges h := by
  simp [geometryHeadInRange, GeometryHeadRanges, and_assoc]

theorem geometryEntryInRange_iff (e : GeometryEntry) :
    geometryEntryInRange e = true ↔ GeometryEntryRanges e := by
  simp [geometryEntryInRange, GeometryEntryRanges, and_assoc]

theorem selectionEntryInRange_iff (e : SelectionEntry) :
    selectionEntryInRange e = true ↔ SelectionEntryRanges e := by
  cases h : e.valid <;> simp [selectionEntryInRange, SelectionEntryRanges, and_assoc, h]

theorem planEntriesInRange_iff (v : Vector PlanEntry 4) :
    planEntriesInRange v = true ↔ ∀ k : Fin 4, PlanEntryRanges v[k] := by
  simp [planEntriesInRange, planEntryInRange_iff, Fin.forall_fin_succ, and_assoc]

theorem geometryEntriesInRange_iff (v : Vector GeometryEntry 4) :
    geometryEntriesInRange v = true ↔ ∀ k : Fin 4, GeometryEntryRanges v[k] := by
  simp [geometryEntriesInRange, geometryEntryInRange_iff, Fin.forall_fin_succ, and_assoc]

theorem inUse_iff (s : State) (p : Nat) : inUse s p = true ↔ PlanInUse s p := by
  simp [inUse, PlanInUse, or_assoc]

@[simp] theorem busyItem_applies (s : State) : (busyItem s).1 = true ↔ s.retention ≠ none := by
  simp [busyItem, Option.isSome_iff_ne_none]

@[simp] theorem busyItem_code (s : State) : (busyItem s).2 = .busy := rfl

@[simp] theorem notHoldItem_applies (s : State) :
    (notHoldItem s).1 = true ↔ s.timebase.mode ≠ .hold := by
  simp [notHoldItem]

@[simp] theorem notHoldItem_code (s : State) : (notHoldItem s).2 = .wrongMode := rfl

/-! ### The refusals of R1, R7, R15 and R18 in their order -/

theorem firstRefusal_cons (x : Bool × ReplyCode) (rest : List (Bool × ReplyCode)) :
    firstRefusal (x :: rest) = if x.1 = true then x.2 else firstRefusal rest := rfl

@[simp] theorem firstRefusal_nil : firstRefusal [] = .ok := rfl

@[simp] theorem verdict_code (l : List (Bool × ReplyCode)) : (verdict l).code = firstRefusal l := rfl

@[simp] theorem verdict_result (l : List (Bool × ReplyCode)) : (verdict l).result = [] := rfl

section
open Classical

variable (t : Taken) (s : State)

theorem answerPlanHeadWrite_code (b : PlanHeadWrite) :
    (answerPlanHeadWrite t b s).code =
      if ¬(PlanNumber b.plan ∧ PlanHeadRanges b.head) then .badArgument
      else if PlanInUse s b.plan then .inUse
      else if s.retention ≠ none then .busy else .ok := by
  simp [answerPlanHeadWrite, firstRefusal_cons, ← Bool.not_eq_true, imp_iff_not_or,
    isPlan_iff, planHeadInRange_iff, inUse_iff]

theorem answerPlanGroupWrite_code (b : PlanGroupWrite) :
    (answerPlanGroupWrite t b s).code =
      if ¬(PlanNumber b.plan ∧ b.group ≤ 2 ∧ ∀ k : Fin 4, PlanEntryRanges b.entries[k]) then
        .badArgument
      else if PlanInUse s b.plan then .inUse
      else if s.retention ≠ none then .busy else .ok := by
  simp [answerPlanGroupWrite, firstRefusal_cons, ← Bool.not_eq_true, imp_iff_not_or, or_assoc,
    isPlan_iff, planEntriesInRange_iff, inUse_iff]

theorem answerErase_code (p : Nat) :
    (answerErase t p s).code =
      if ¬ PlanNumber p then .badArgument
      else if PlanInUse s p then .inUse
      else if s.retention ≠ none then .busy else .ok := by
  simp [answerErase, firstRefusal_cons, ← Bool.not_eq_true, isPlan_iff, inUse_iff]

theorem answerPlanCheck_code (p : Nat) :
    (answerPlanCheck t p s).code =
      if ¬ PlanNumber p then .badArgument
      else if (s.store.plan p).state = .empty then .notReady
      else if s.retention ≠ none then .busy else .ok := by
  simp [answerPlanCheck, firstRefusal_cons, ← Bool.not_eq_true, isPlan_iff]

theorem answerGeometryHeadWrite_code (h : GeometryHead) :
    (answerGeometryHeadWrite t h s).code =
      if s.timebase.mode ≠ .hold then .wrongMode
      else if ¬ GeometryHeadRanges h then .badArgument
      else if s.retention ≠ none then .busy else .ok := by
  simp [answerGeometryHeadWrite, firstRefusal_cons, ← Bool.not_eq_true, geometryHeadInRange_iff]

theorem answerGeometryGroupWrite_code (b : GeometryGroupWrite) :
    (answerGeometryGroupWrite t b s).code =
      if s.timebase.mode ≠ .hold then .wrongMode
      else if ¬(b.group ≤ 2 ∧ ∀ k : Fin 4, GeometryEntryRanges b.entries[k]) then .badArgument
      else if s.retention ≠ none then .busy else .ok := by
  simp [answerGeometryGroupWrite, firstRefusal_cons, ← Bool.not_eq_true, imp_iff_not_or,
    geometryEntriesInRange_iff]

theorem answerGeometryCheck_code (u : Unit) :
    (answerGeometryCheck t u s).code =
      if s.timebase.mode ≠ .hold then .wrongMode
      else if s.retention ≠ none then .busy else .ok := by
  simp [answerGeometryCheck, firstRefusal_cons]

theorem answerSelectionWrite_code (b : SelectionWrite) :
    (answerSelectionWrite t b s).code =
      if ¬(b.index ≤ 15 ∧ SelectionEntryRanges b.entry) then .badArgument
      else if s.retention ≠ none then .busy else .ok := by
  simp [answerSelectionWrite, firstRefusal_cons, ← Bool.not_eq_true, imp_iff_not_or,
    selectionEntryInRange_iff]

end

/-! ### What an accepted write does to the store (R4, R5, R10, R11, R13, R18) -/

@[simp] theorem Store.setPlan_succ (st : Store) (p : Fin 24) (r : PlanRecord) :
    st.setPlan (p.val + 1) r = st.putPlan p r := by
  simp [Store.setPlan, Store.putPlan]

@[simp] theorem retainPlan_succ (p : Fin 24) (record : Fin 24 → RetentionRecord) (s : State) :
    retainPlan (p.val + 1) record s = startRetention (record p) s := by
  simp [retainPlan]

/-- Record p of the store once record p has been put there. -/
theorem Store.putPlan_plans (st : Store) (p q : Fin 24) (r : PlanRecord) :
    (st.putPlan p r).plans[q] = if p = q then r else st.plans[q] := by
  simp [Store.putPlan, Vector.getElem_set, Fin.ext_iff]

@[simp] theorem Store.putPlan_geometry (st : Store) (p : Fin 24) (r : PlanRecord) :
    (st.putPlan p r).geometry = st.geometry := rfl

@[simp] theorem Store.putPlan_selection (st : Store) (p : Fin 24) (r : PlanRecord) :
    (st.putPlan p r).selection = st.selection := rfl

/-- A group replaced by four entries, in the form of the tables. -/
theorem replaceGroup_groupReplaced {α : Type} (old : Vector α 12) (g : Nat) (four : Vector α 4) :
    GroupReplaced old (replaceGroup old g four) g four := by
  intro j
  simp [replaceGroup]

/-- A check replaces the state, the stamp and the fault alone (R15). -/
theorem checkedPlan_eq (g : Geometry) (r : PlanRecord) :
    checkedPlan g r = { r with
      state := (checkedPlan g r).state, stamp := (checkedPlan g r).stamp
      fault := (checkedPlan g r).fault } := by
  unfold checkedPlan
  split <;> rfl

/-- A check replaces the state, the fault and the stamp alone (R7). -/
theorem checkedGeometry_eq (g : Geometry) :
    checkedGeometry g = { g with
      state := (checkedGeometry g).state, fault := (checkedGeometry g).fault
      stamp := (checkedGeometry g).stamp } := by
  unfold checkedGeometry
  split
  · split <;> rfl
  · rfl

section
variable (t : Taken) (s : State)

theorem effectPlanHeadWrite_eq {b : PlanHeadWrite} {p : Fin 24} (h : b.plan = p.val + 1) :
    effectPlanHeadWrite t b s = { s with
      store := s.store.putPlan p { s.store.plans[p] with state := .unchecked, head := b.head }
      retention := some (.planHead p) } := by
  simp only [effectPlanHeadWrite, h, retainPlan_succ, Store.setPlan_succ, Store.plan_succ]
  rfl

theorem effectPlanGroupWrite_eq {b : PlanGroupWrite} {p : Fin 24} {g : Fin 3}
    (h : b.plan = p.val + 1) (hg : b.group = g.val) :
    effectPlanGroupWrite t b s = { s with
      store := s.store.putPlan p { s.store.plans[p] with
        state := .unchecked, entries := replaceGroup s.store.plans[p].entries g.val b.entries }
      retention := some (.planGroup p g) } := by
  simp only [effectPlanGroupWrite, h, retainPlan_succ, Store.setPlan_succ, Store.plan_succ,
    PlanRecord.withGroup, hg, Fin.ofNat_val_eq_self]
  rfl

theorem effectErase_eq (p : Fin 24) :
    effectErase t (p.val + 1) s = { s with
      store := s.store.putPlan p .erased, retention := some (.planState p true) } := by
  simp only [effectErase, retainPlan_succ, Store.setPlan_succ]
  rfl

theorem effectPlanCheck_eq (p : Fin 24) :
    effectPlanCheck t (p.val + 1) s = { s with
      store := s.store.putPlan p (checkedPlan s.store.geometry s.store.plans[p])
      retention :=
        if checkedPlan s.store.geometry s.store.plans[p] = s.store.plans[p] then s.retention
        else some (.planState p false) } := by
  have same : checkedPlan s.store.geometry s.store.plans[p] = s.store.plans[p] ↔
      (checkedPlan s.store.geometry s.store.plans[p]).state = s.store.plans[p].state ∧
      (checkedPlan s.store.geometry s.store.plans[p]).stamp = s.store.plans[p].stamp ∧
      (checkedPlan s.store.geometry s.store.plans[p]).fault = s.store.plans[p].fault := by
    refine ⟨fun h => by rw [h]; simp, fun ⟨h1, h2, h3⟩ => ?_⟩
    rw [checkedPlan_eq, h1, h2, h3]
  simp only [effectPlanCheck, Store.plan_succ, Store.setPlan_succ, retainPlan_succ, same]
  split <;> rfl

theorem effectGeometryHeadWrite_eq {h : GeometryHead} :
    effectGeometryHeadWrite t h s = changeN (junctionCount s) { s with
      store := { s.store with geometry := { s.store.geometry with state := .unchecked, head := h } }
      retention := some .geometryHead } := rfl

theorem effectGeometryGroupWrite_eq {b : GeometryGroupWrite} {g : Fin 3} (hg : b.group = g.val) :
    effectGeometryGroupWrite t b s = { s with
      store := { s.store with geometry := { s.store.geometry with
        state := .unchecked, entries := replaceGroup s.store.geometry.entries g.val b.entries } }
      retention := some (.geometryGroup g) } := by
  simp only [effectGeometryGroupWrite, Geometry.withGroup, hg, Fin.ofNat_val_eq_self]
  rfl

theorem effectGeometryCheck_eq (u : Unit) :
    effectGeometryCheck t u s = { s with
      store := { s.store with geometry := checkedGeometry s.store.geometry }
      retention :=
        if checkedGeometry s.store.geometry = s.store.geometry then s.retention
        else some .geometryHead } := by
  have same : checkedGeometry s.store.geometry = s.store.geometry ↔
      (checkedGeometry s.store.geometry).state = s.store.geometry.state ∧
      (checkedGeometry s.store.geometry).fault = s.store.geometry.fault ∧
      (checkedGeometry s.store.geometry).stamp = s.store.geometry.stamp := by
    refine ⟨fun h => by rw [h]; simp, fun ⟨h1, h2, h3⟩ => ?_⟩
    rw [checkedGeometry_eq, h1, h2, h3]
  simp only [effectGeometryCheck, same]
  split <;> rfl

theorem effectSelectionWrite_eq {b : SelectionWrite} {i : Fin 16} (h : b.index = i.val) :
    effectSelectionWrite t b s = { s with
      store := { s.store with selection := s.store.selection.set i.val b.entry i.isLt }
      retention := some (.selectionEntry i) } := by
  obtain ⟨_, entry⟩ := b
  subst h
  simp only [effectSelectionWrite, i.isLt, dif_pos]
  rfl

end

end Sys2Proof.Machine
end

section
/-! Serving a request, seen from its statement: an admitted request is refused, read or carried out. -/

namespace Sys2Proof.Machine

open Sys2Proof

/-- The handler takes `t` next, as a request of kind `k` with the content `body`, from a sender that has
the right to make it. -/
structure Carries {α : Type} (s : State) (t : Taken) (k : RequestKind)
    (parse : List Byte → Option α) (body : α) : Prop where
  next   : nextFrame s = some t
  kind   : kindOf t.frame.kind = some k
  right  : hasRight k t = true
  parsed : parse t.frame.payload = some body

/-- An admitted request carries the content from which it was made. -/
theorem Admits.carries {α : Type} {s : State} {t : Taken} {k : RequestKind}
    {parse : List Byte → Option α} {make : α → Request} {body : α} (h : Admits s t (make body))
    (hk : (make body).kind = k) (hp : ∀ p, parseRequest k p = (parse p).map make)
    (inj : ∀ x y, make x = make y → x = y) : Carries s t k parse body := by
  obtain ⟨hn, hkind, hr, hparse⟩ := h
  subst hk
  rw [hp, Option.map_eq_some_iff] at hparse
  obtain ⟨x, hx, he⟩ := hparse
  exact ⟨hn, hkind, hr, inj _ _ he ▸ hx⟩

section
variable {α : Type} {s : State} {t : Taken} {k : RequestKind} {parse : List Byte → Option α}
  {body : α} {answer : Taken → α → State → Answer} {effect : Taken → α → State → State} {c : Instr}

/-- A request that its block refuses. -/
theorem Carries.refused {code : ReplyCode} (h : Carries s t k parse body)
    (he : exec c s = .next (serve k parse answer effect s))
    (ha : (answer t body (takeFrame t.port s)).code = code) (hc : code ≠ .ok) :
    RefusedWith c s t code :=
  ⟨_, he, by rw [serve_refused h.next h.kind h.right h.parsed ha hc]; exact refused_answered s t code⟩

/-- A request that its block accepts, whose effect gives the store and the retention record new values. -/
theorem Carries.storeChanged {result : List Byte} {store : Store} {writing : Option RetentionRecord}
    (h : Carries s t k parse body) (rest : AtRest s)
    (he : exec c s = .next (serve k parse answer effect s))
    (ha : (answer t body (takeFrame t.port s)).code = .ok)
    (hr : (answer t body (takeFrame t.port s)).result = result)
    (heff : effect t body (answered s t .ok result) =
      { answered s t .ok result with store, retention := writing }) :
    StoreChanged c s t result store writing := by
  have hs := serve_accepted (effect := effect) h.next h.kind h.right h.parsed ha
  rw [hr, heff, settle_rest (by simpa [AtRest] using rest)] at hs
  refine ⟨_, he, ?_⟩
  rw [hs]
  exact ⟨accepted_of_eq rfl rfl rfl, by apply State.ext <;> simp⟩

/-- A read, which changes nothing: its page, or BAD_ARGUMENT. -/
theorem Carries.readServed {inRange : Prop} {result : List Byte} {page : Nat}
    (h : Carries s t k parse body) (rest : AtRest s)
    (he : exec c s = .next (serve k parse answer noEffect s))
    (hin : inRange → answer t body (takeFrame t.port s) = pageAnswer result page)
    (hout : ¬ inRange → answer t body (takeFrame t.port s) = refuse .badArgument) :
    ReadServed c s t inRange result page := by
  have accepted : ∀ chars, inRange → pageOf result page = some chars →
      serve k parse answer noEffect s = answered s t .ok chars := by
    intro chars hr hp
    have ha : answer t body (takeFrame t.port s) = { code := .ok, result := chars } := by
      rw [hin hr, pageAnswer, hp]
    rw [serve_accepted h.next h.kind h.right h.parsed (by rw [ha]), ha]
    exact settle_rest (by simpa [noEffect, AtRest] using rest)
  have refused : ¬ inRange ∨ pageOf result page = none →
      serve k parse answer noEffect s = answered s t .badArgument [] := by
    intro hr
    refine serve_refused h.next h.kind h.right h.parsed ?_ (by decide)
    by_cases hi : inRange
    · rw [hin hi, pageAnswer, hr.resolve_left (not_not_intro hi)]; rfl
    · rw [hout hi]; rfl
  refine ⟨_, he, ?_, fun chars hr hp => ?_, fun hr => ?_⟩
  · by_cases hi : inRange
    · cases hp : pageOf result page with
      | none => rw [refused (.inr hp)]; exact (answered_replied ..).2
      | some chars => rw [accepted chars hi hp]; exact (answered_replied ..).2
    · rw [refused (.inl hi)]; exact (answered_replied ..).2
  · rw [accepted chars hr hp]; exact (answered_replied ..).1
  · rw [refused hr]; exact (answered_replied ..).1

end

/-! ### What the admitted requests of the Plan Store carry -/

section
variable {s : State} {t : Taken}

theorem Admits.planHeadRead {b : IndexedRead} (h : Admits s t (.readPlanHead b)) :
    Carries s t .readPlanHead parseIndexed b :=
  h.carries rfl (fun _ => rfl) fun _ _ => Request.readPlanHead.inj

theorem Admits.planGroupRead {b : PlanGroupRead} (h : Admits s t (.readPlanGroup b)) :
    Carries s t .readPlanGroup parsePlanGroupRead b :=
  h.carries rfl (fun _ => rfl) fun _ _ => Request.readPlanGroup.inj

theorem Admits.geometryHeadRead {page : Nat} (h : Admits s t (.readGeometryHead page)) :
    Carries s t .readGeometryHead parseOne page :=
  h.carries rfl (fun _ => rfl) fun _ _ => Request.readGeometryHead.inj

theorem Admits.geometryGroupRead {b : IndexedRead} (h : Admits s t (.readGeometryGroup b)) :
    Carries s t .readGeometryGroup parseIndexed b :=
  h.carries rfl (fun _ => rfl) fun _ _ => Request.readGeometryGroup.inj

theorem Admits.selectionRead {b : IndexedRead} (h : Admits s t (.readSelection b)) :
    Carries s t .readSelection parseIndexed b :=
  h.carries rfl (fun _ => rfl) fun _ _ => Request.readSelection.inj

theorem Admits.planHeadWrite {b : PlanHeadWrite} (h : Admits s t (.writePlanHead b)) :
    Carries s t .writePlanHead parsePlanHeadWrite b :=
  h.carries rfl (fun _ => rfl) fun _ _ => Request.writePlanHead.inj

theorem Admits.planGroupWrite {b : PlanGroupWrite} (h : Admits s t (.writePlanGroup b)) :
    Carries s t .writePlanGroup parsePlanGroupWrite b :=
  h.carries rfl (fun _ => rfl) fun _ _ => Request.writePlanGroup.inj

theorem Admits.planErase {n : Nat} (h : Admits s t (.erasePlan n)) :
    Carries s t .erasePlan parseOne n :=
  h.carries rfl (fun _ => rfl) fun _ _ => Request.erasePlan.inj

theorem Admits.planCheck {n : Nat} (h : Admits s t (.checkPlan n)) :
    Carries s t .checkPlan parseOne n :=
  h.carries rfl (fun _ => rfl) fun _ _ => Request.checkPlan.inj

theorem Admits.geometryHeadWrite {b : GeometryHead} (h : Admits s t (.writeGeometryHead b)) :
    Carries s t .writeGeometryHead parseGeometryHead b :=
  h.carries rfl (fun _ => rfl) fun _ _ => Request.writeGeometryHead.inj

theorem Admits.geometryGroupWrite {b : GeometryGroupWrite} (h : Admits s t (.writeGeometryGroup b)) :
    Carries s t .writeGeometryGroup parseGeometryGroup b :=
  h.carries rfl (fun _ => rfl) fun _ _ => Request.writeGeometryGroup.inj

theorem Admits.geometryCheck (h : Admits s t .checkGeometry) :
    Carries s t .checkGeometry parseNone () :=
  h.carries (make := fun _ : Unit => .checkGeometry) rfl (fun _ => rfl) fun _ _ _ => rfl

theorem Admits.selectionWrite {b : SelectionWrite} (h : Admits s t (.writeSelection b)) :
    Carries s t .writeSelection parseSelection b :=
  h.carries rfl (fun _ => rfl) fun _ _ => Request.writeSelection.inj

end

end Sys2Proof.Machine
end

section
/-! What a command can do to the Plan Store and to the Timebase, said once: the commands that leave both,
the eight store-changing requests, the moves of the Timebase, and the resets. -/

namespace Sys2Proof.Machine

open Sys2Proof

/-! ### Commands that leave the Plan Store and the Timebase -/

/-- Both copies of the store, the record being written and the latched straps stay. -/
structure StoreKept (s u : State) : Prop where
  store     : u.store = s.store
  retention : u.retention = s.retention
  retained  : u.retained = s.retained
  straps    : u.straps = s.straps

/-- The store stays, and the Timebase but for the number of its last beat, with a boundary due or not as
before. -/
structure Untouched (s u : State) : Prop extends StoreKept s u where
  timebase : u.timebase = { s.timebase with beatSeq := u.timebase.beatSeq }
  boundary : u.due.boundary = s.due.boundary

theorem storeKept_iff {s u : State} : StoreKept s u ↔
    u.store = s.store ∧ u.retention = s.retention ∧ u.retained = s.retained ∧ u.straps = s.straps :=
  ⟨fun ⟨h1, h2, h3, h4⟩ => ⟨h1, h2, h3, h4⟩, fun ⟨h1, h2, h3, h4⟩ => ⟨h1, h2, h3, h4⟩⟩

theorem untouched_iff {s u : State} : Untouched s u ↔ StoreKept s u ∧
    u.timebase = { s.timebase with beatSeq := u.timebase.beatSeq } ∧
    u.due.boundary = s.due.boundary :=
  ⟨fun ⟨h1, h2, h3⟩ => ⟨h1, h2, h3⟩, fun ⟨h1, h2, h3⟩ => ⟨h1, h2, h3⟩⟩

theorem Untouched.refl (s : State) : Untouched s s := ⟨⟨rfl, rfl, rfl, rfl⟩, rfl, rfl⟩

theorem StoreKept.trans {s u v : State} (h : StoreKept s u) (h' : StoreKept u v) : StoreKept s v :=
  ⟨h'.store.trans h.store, h'.retention.trans h.retention, h'.retained.trans h.retained,
    h'.straps.trans h.straps⟩

theorem Untouched.trans {s u v : State} (h : Untouched s u) (h' : Untouched u v) : Untouched s v :=
  ⟨h.toStoreKept.trans h'.toStoreKept, by rw [h'.timebase, h.timebase], h'.boundary.trans h.boundary⟩

theorem answered_untouched (s : State) (t : Taken) (c : ReplyCode) (r : List Byte) :
    Untouched s (answered s t c r) := by
  simp [untouched_iff, storeKept_iff]

theorem settle_untouched (s : State) : Untouched s (settle s) := by
  simp [untouched_iff, storeKept_iff]

/-- A request whose effect leaves the store and the Timebase leaves them. -/
theorem serve_untouched {α : Type} {k : RequestKind} {parse : List Byte → Option α}
    {answer : Taken → α → State → Answer} {effect : Taken → α → State → State}
    (h : ∀ t body v, Untouched v (effect t body v)) (s : State) :
    Untouched s (serve k parse answer effect s) := by
  obtain e | ⟨t, _, _, ⟨c, _, e⟩ | ⟨body, r, _, _, _, _, e⟩⟩ :=
    serve_cases (k := k) (parse := parse) (answer := answer) (effect := effect) (s := s) <;> rw [e]
  · exact .refl s
  · exact answered_untouched s t c []
  · exact ((answered_untouched s t .ok r).trans (h t body _)).trans (settle_untouched _)

theorem serveUnknown_untouched (s : State) : Untouched s (serveUnknown s) := by
  unfold serveUnknown
  split
  · exact .refl s
  · split
    · exact answered_untouched s _ _ _
    · exact .refl s

/-- An event that leaves the store and the Timebase in the running unit leaves them in reset too. -/
theorem whenRunning_untouched {act : State → State} (h : ∀ v, Untouched v (act v)) (s : State) :
    Untouched s (whenRunning act s) := by
  unfold whenRunning
  split
  · exact .refl s
  · exact h s

section
variable (t : Taken) (v : State)

theorem noEffect_untouched {α : Type} (body : α) : Untouched v (noEffect t body v) := .refl v

theorem effectReport_untouched (b : ReportBody) : Untouched v (effectReport t b v) := by
  unfold effectReport
  split <;> simp [untouched_iff, storeKept_iff]

theorem effectCall_untouched (b : CallBody) : Untouched v (effectCall t b v) := by
  unfold effectCall
  split <;> simp [untouched_iff, storeKept_iff]

theorem effectCancel_untouched (b : CancelBody) : Untouched v (effectCancel t b v) := by
  unfold effectCancel
  repeat' split
  all_goals simp [untouched_iff, storeKept_iff]

theorem effectStatus_untouched (b : StatusBody) : Untouched v (effectStatus t b v) := by
  unfold effectStatus
  split <;> simp [untouched_iff, storeKept_iff, clearCounters]

theorem effectPinBias_untouched (n : Nat) : Untouched v (effectPinBias t n v) := by
  unfold effectPinBias
  split <;> simp [untouched_iff, storeKept_iff]

theorem effectResetUnit_untouched (relatch : Bool) : Untouched v (effectResetUnit t relatch v) := by
  simp [untouched_iff, storeKept_iff, effectResetUnit]

end

section
variable (v : State)

theorem gapFault_untouched (chars : List Byte) : Untouched v (gapFault v chars) := by
  unfold gapFault
  split <;> simp [untouched_iff, storeKept_iff]

theorem lineRxFault_untouched (f : RxFault) : Untouched v (lineRxFault f v) := by
  simp [untouched_iff, storeKept_iff, lineRxFault]

theorem centreRxFault_untouched (f : RxFault) : Untouched v (centreRxFault f v) := by
  simp [untouched_iff, storeKept_iff, centreRxFault]

theorem placeLineFrame_untouched (f : Frame) : Untouched v (placeLineFrame f v) := by
  unfold placeLineFrame
  split
  · simp [untouched_iff, storeKept_iff]
  · exact lineRxFault_untouched v _

theorem placeCentreFrame_untouched (f : Frame) : Untouched v (placeCentreFrame f v) := by
  unfold placeCentreFrame
  split
  · simp [untouched_iff, storeKept_iff]
  · exact centreRxFault_untouched v _

theorem lineFree_untouched (chars : List Byte) : Untouched v (lineFree chars v) := by
  unfold lineFree
  split
  · exact .refl v
  · refine (gapFault_untouched v chars).trans ?_
    split <;> simp [untouched_iff, storeKept_iff]

theorem lineReceive_untouched (chars : List Byte) : Untouched v (lineReceive chars v) := by
  unfold lineReceive
  split
  · cases assemble chars with
    | complete f => exact placeLineFrame_untouched v f
    | badLength => exact lineRxFault_untouched v .length
    | badCheck => exact lineRxFault_untouched v .check
    | incomplete => exact .refl v
    | overlong => exact .refl v
  · exact .refl v

theorem centreReceive_untouched (chars : List Byte) : Untouched v (centreReceive chars v) := by
  unfold centreReceive
  cases assemble chars with
  | complete f => exact placeCentreFrame_untouched v f
  | badLength => exact centreRxFault_untouched v .length
  | badCheck => exact centreRxFault_untouched v .check
  | incomplete => exact .refl v
  | overlong => exact .refl v

theorem lineDiscard_untouched (f : RxFault) (chars : List Byte) :
    Untouched v (lineDiscard f chars v) := by
  unfold lineDiscard
  split
  · exact lineRxFault_untouched v f
  · exact .refl v

theorem centreDiscard_untouched (f : RxFault) (chars : List Byte) :
    Untouched v (centreDiscard f chars v) := by
  unfold centreDiscard
  split
  · exact centreRxFault_untouched v f
  · exact .refl v

theorem localZero_untouched (j : Junction) : Untouched v (localZero j v) := by
  unfold localZero
  repeat' split
  all_goals simp [untouched_iff, storeKept_iff]

theorem windowClose_untouched (j : Junction) : Untouched v (windowClose j v) := by
  unfold windowClose
  repeat' split
  all_goals simp [untouched_iff, storeKept_iff]

theorem beatNow_untouched : Untouched v (beatNow v) := by
  unfold beatNow
  repeat' split
  all_goals simp [untouched_iff, storeKept_iff]

theorem pinLapse_untouched : Untouched v (pinLapse v) := by
  unfold pinLapse
  repeat' split
  all_goals simp [untouched_iff, storeKept_iff]

theorem periodEnd_untouched : Untouched v (periodEnd v) := by
  unfold periodEnd
  repeat' split
  all_goals simp [untouched_iff, storeKept_iff]

theorem expireEntry_untouched (j : Junction) (tag : Nat) : Untouched v (expireEntry j tag v) := by
  unfold expireEntry
  repeat' split
  all_goals simp [untouched_iff, storeKept_iff]

theorem lineBusy_untouched : Untouched v (lineBusy v) := by
  unfold lineBusy
  repeat' split
  all_goals simp [untouched_iff, storeKept_iff]

theorem lineFault_untouched : Untouched v (lineFault v) := by
  unfold lineFault
  repeat' split
  all_goals simp [untouched_iff, storeKept_iff]

theorem frameComplete_untouched : Untouched v (frameComplete v) := by
  unfold frameComplete
  repeat' split
  all_goals simp [untouched_iff, storeKept_iff]

theorem arbitrationLoss_untouched : Untouched v (arbitrationLoss v) := by
  unfold arbitrationLoss
  repeat' split
  all_goals simp [untouched_iff, storeKept_iff]

theorem centreComplete_untouched : Untouched v (centreComplete v) := by
  unfold centreComplete
  repeat' split
  all_goals simp [untouched_iff, storeKept_iff]

end

end Sys2Proof.Machine
end

section
/-! The eight store-changing requests: what the store and the retention record become. -/

namespace Sys2Proof.Machine

open Sys2Proof

/-! ### The writes of the Plan Store (R4, R5, R7, R10, R11, R13, R15, R18) -/

/-- The working copy that an accepted store-changing request leaves, with the record whose write it
starts. -/
inductive StoreWrite (s : State) : Store → Option RetentionRecord → Prop
  | planHead (p : Fin 24) (head : PlanHead) (free : ¬ PlanInUse s (p.val + 1))
      (ranges : PlanHeadRanges head) :
      StoreWrite s (s.store.putPlan p { s.store.plans[p] with state := .unchecked, head })
        (some (.planHead p))
  | planGroup (p : Fin 24) (g : Fin 3) (four : Vector PlanEntry 4)
      (ranges : ∀ k : Fin 4, PlanEntryRanges four[k]) :
      StoreWrite s
        (s.store.putPlan p { s.store.plans[p] with
          state := .unchecked, entries := replaceGroup s.store.plans[p].entries g.val four })
        (some (.planGroup p g))
  | planErase (p : Fin 24) (free : ¬ PlanInUse s (p.val + 1)) :
      StoreWrite s (s.store.putPlan p .erased) (some (.planState p true))
  | planCheck (p : Fin 24) (state : PlanState) (stamp : Nat) (fault : PlanFault) :
      StoreWrite s (s.store.putPlan p { s.store.plans[p] with state, stamp, fault })
        (some (.planState p false))
  | geometryHead (head : GeometryHead) (ranges : GeometryHeadRanges head) :
      StoreWrite s
        { s.store with geometry := { s.store.geometry with state := .unchecked, head } }
        (some .geometryHead)
  | geometryGroup (g : Fin 3) (four : Vector GeometryEntry 4)
      (ranges : ∀ k : Fin 4, GeometryEntryRanges four[k]) :
      StoreWrite s
        { s.store with geometry := { s.store.geometry with
          state := .unchecked, entries := replaceGroup s.store.geometry.entries g.val four } }
        (some (.geometryGroup g))
  | geometryCheck (state : GeometryState) (fault : GeometryFault) (stamp : Nat) :
      StoreWrite s { s.store with geometry := { s.store.geometry with state, fault, stamp } }
        (some .geometryHead)
  | selection (i : Fin 16) (entry : SelectionEntry) (ranges : SelectionEntryRanges entry) :
      StoreWrite s { s.store with selection := s.store.selection.set i.val entry i.isLt }
        (some (.selectionEntry i))
  | unchanged : StoreWrite s s.store none

/-- An accepted store-changing request found no write in progress, changed the working copy and the record
being written as it does, and left the retained copy, the straps and the Timebase. -/
structure StoreWritten (s u : State) : Prop where
  idle     : s.retention = none
  write    : StoreWrite s u.store u.retention
  retained : u.retained = s.retained
  straps   : u.straps = s.straps
  timebase : u.timebase = s.timebase
  boundary : u.due.boundary = s.due.boundary

/-- The state in which an effect is made, with another store and record. -/
theorem storeWritten_answered {s : State} {t : Taken} {r : List Byte} {store : Store}
    {writing : Option RetentionRecord} (idle : s.retention = none) (h : StoreWrite s store writing) :
    StoreWritten s { answered s t .ok r with store, retention := writing } :=
  ⟨idle, h, by simp, by simp, by simp, by simp⟩

/-- A request either leaves the store, or its block has accepted it. -/
theorem serve_storeWritten {α : Type} {k : RequestKind} {parse : List Byte → Option α}
    {answer : Taken → α → State → Answer} {effect : Taken → α → State → State} {s : State}
    (h : ∀ t body r, (answer t body (takeFrame t.port s)).code = .ok →
      StoreWritten s (effect t body (answered s t .ok r))) :
    Untouched s (serve k parse answer effect s) ∨ StoreWritten s (serve k parse answer effect s) := by
  obtain e | ⟨t, _, _, ⟨c, _, e⟩ | ⟨body, r, _, _, ha, _, e⟩⟩ :=
    serve_cases (k := k) (parse := parse) (answer := answer) (effect := effect) (s := s) <;> rw [e]
  · exact .inl (.refl s)
  · exact .inl (answered_untouched s t c [])
  · obtain ⟨h1, h2, h3, h4, h5, h6⟩ := h t body r ha
    exact .inr ⟨h1, by simpa using h2, by simpa using h3, by simpa using h4, by simpa using h5,
      by simpa using h6⟩

/-- A plan is in use for a frame just taken as it was before. -/
@[simp] theorem planInUse_takeFrame (p : Port) (s : State) (n : Nat) :
    PlanInUse (takeFrame p s) n ↔ PlanInUse s n := by
  simp [PlanInUse]

theorem answered_store (s : State) (t : Taken) (c : ReplyCode) (r : List Byte) :
    (answered s t c r).store = s.store := by simp

theorem answered_retention (s : State) (t : Taken) (c : ReplyCode) (r : List Byte) :
    (answered s t c r).retention = s.retention := by simp

section
variable {s : State} {t : Taken} {r : List Byte}

theorem planHeadWrite_written {b : PlanHeadWrite}
    (h : (answerPlanHeadWrite t b (takeFrame t.port s)).code = .ok) :
    StoreWritten s (effectPlanHeadWrite t b (answered s t .ok r)) := by
  rw [answerPlanHeadWrite_code] at h
  split_ifs at h with h1 h2 h3
  simp only [not_not, planInUse_takeFrame, takeFrame_frame] at h1 h2 h3
  obtain ⟨p, hp⟩ := exists_plan ((isPlan_iff _).2 h1.1)
  rw [effectPlanHeadWrite_eq t _ hp, answered_store]
  exact storeWritten_answered h3 (.planHead p b.head (hp ▸ h2) h1.2)

theorem planGroupWrite_written {b : PlanGroupWrite}
    (h : (answerPlanGroupWrite t b (takeFrame t.port s)).code = .ok) :
    StoreWritten s (effectPlanGroupWrite t b (answered s t .ok r)) := by
  rw [answerPlanGroupWrite_code] at h
  split_ifs at h with h1 h2 h3
  simp only [not_not, takeFrame_frame] at h1 h3
  obtain ⟨hplan, hgroup, hentries⟩ := h1
  obtain ⟨p, hp⟩ := exists_plan ((isPlan_iff _).2 hplan)
  rw [effectPlanGroupWrite_eq t _ (g := ⟨b.group, by omega⟩) hp rfl, answered_store]
  exact storeWritten_answered h3 (.planGroup p _ b.entries hentries)

theorem planErase_written {n : Nat} (h : (answerErase t n (takeFrame t.port s)).code = .ok) :
    StoreWritten s (effectErase t n (answered s t .ok r)) := by
  rw [answerErase_code] at h
  split_ifs at h with h1 h2 h3
  simp only [not_not, planInUse_takeFrame, takeFrame_frame] at h1 h2 h3
  obtain ⟨p, rfl⟩ := exists_plan ((isPlan_iff _).2 h1)
  rw [effectErase_eq, answered_store]
  exact storeWritten_answered h3 (.planErase p h2)

theorem planCheck_written {n : Nat} (h : (answerPlanCheck t n (takeFrame t.port s)).code = .ok) :
    StoreWritten s (effectPlanCheck t n (answered s t .ok r)) := by
  rw [answerPlanCheck_code] at h
  split_ifs at h with h1 h2 h3
  simp only [not_not, takeFrame_frame] at h1 h3
  obtain ⟨p, rfl⟩ := exists_plan ((isPlan_iff _).2 h1)
  rw [effectPlanCheck_eq, answered_store, answered_retention]
  refine storeWritten_answered h3 ?_
  split
  · next same =>
    have keeps : s.store.putPlan p s.store.plans[p] = s.store := by simp [Store.putPlan]
    rw [same, keeps, h3]
    exact .unchanged
  · rw [checkedPlan_eq]
    exact .planCheck p _ _ _

theorem geometryHeadWrite_written {head : GeometryHead}
    (h : (answerGeometryHeadWrite t head (takeFrame t.port s)).code = .ok) :
    StoreWritten s (effectGeometryHeadWrite t head (answered s t .ok r)) := by
  rw [answerGeometryHeadWrite_code] at h
  split_ifs at h with h1 h2 h3
  simp only [not_not, takeFrame_frame] at h2 h3
  rw [effectGeometryHeadWrite_eq, answered_store]
  exact ⟨h3, by simpa using .geometryHead head h2, by simp, by simp, by simp, by simp⟩

theorem geometryGroupWrite_written {b : GeometryGroupWrite}
    (h : (answerGeometryGroupWrite t b (takeFrame t.port s)).code = .ok) :
    StoreWritten s (effectGeometryGroupWrite t b (answered s t .ok r)) := by
  rw [answerGeometryGroupWrite_code] at h
  split_ifs at h with h1 h2 h3
  simp only [not_not, takeFrame_frame] at h2 h3
  obtain ⟨hgroup, hentries⟩ := h2
  rw [effectGeometryGroupWrite_eq t _ (g := ⟨b.group, by omega⟩) rfl, answered_store]
  exact storeWritten_answered h3 (.geometryGroup _ b.entries hentries)

theorem geometryCheck_written {u : Unit}
    (h : (answerGeometryCheck t u (takeFrame t.port s)).code = .ok) :
    StoreWritten s (effectGeometryCheck t u (answered s t .ok r)) := by
  rw [answerGeometryCheck_code] at h
  split_ifs at h with h1 h2
  simp only [not_not, takeFrame_frame] at h2
  rw [effectGeometryCheck_eq, answered_store, answered_retention]
  refine storeWritten_answered h2 ?_
  split
  · next same =>
    rw [same, h2]
    exact .unchanged
  · rw [checkedGeometry_eq]
    exact .geometryCheck _ _ _

theorem selectionWrite_written {b : SelectionWrite}
    (h : (answerSelectionWrite t b (takeFrame t.port s)).code = .ok) :
    StoreWritten s (effectSelectionWrite t b (answered s t .ok r)) := by
  rw [answerSelectionWrite_code] at h
  split_ifs at h with h1 h2
  simp only [not_not, takeFrame_frame] at h1 h2
  rw [effectSelectionWrite_eq t _ (i := ⟨b.index, by omega⟩) rfl, answered_store]
  exact storeWritten_answered h2 (.selection _ b.entry h1.2)

end
end Sys2Proof.Machine
end

section
/-! The moves of the Timebase, said once: what each request and event that moves it leaves. -/

namespace Sys2Proof.Machine

open Sys2Proof

/-! ### The moves of the Timebase (R51 to R59, R101 to R107) -/

/-- The Timebase that a command leaves where it moves it, and whether a boundary is then due. -/
inductive TimebaseMove (s : State) : Timebase → Bool → Prop
  | enter (p : Nat) (plan : isPlan p = true) (held : s.timebase.mode = .hold) :
      TimebaseMove s { s.timebase with mode := .entering, entry := p } s.due.boundary
  | hold (seq : Nat) : TimebaseMove s { heldTimebase s.timebase with beatSeq := seq } false
  | pending (p : Nat) (running : s.timebase.mode = .run)
      (plan : p = 0 ∨ isPlan p = true ∧ p ≠ s.timebase.active) :
      TimebaseMove s { s.timebase with pendingPlan := p } s.due.boundary
  | start (p seq : Nat) (entering : s.timebase.mode = .entering)
      (plan : p = s.timebase.pendingPlan ∨ isPlan p = true ∧ p ≠ s.timebase.entry) :
      TimebaseMove s
        { mode := .run, cc := 0, c := (s.store.plan s.timebase.entry).head.c
          active := s.timebase.entry, pendingPlan := p, entry := 0, divider := some 0, beatSeq := seq }
        s.due.boundary
  | switch (due : s.due.boundary = true) (plan : s.timebase.pendingPlan ≠ 0) :
      TimebaseMove s
        { s.timebase with
          active := s.timebase.pendingPlan, pendingPlan := 0
          c := (s.store.plan s.timebase.pendingPlan).head.c } false
  | passed : TimebaseMove s s.timebase false
  | tick (running : s.timebase.mode = .run) :
      TimebaseMove s
        { s.timebase with
          cc := if s.timebase.c ≤ s.timebase.cc + 1 then 0 else s.timebase.cc + 1
          divider := s.timebase.divider.map tickDivider }
        (decide (s.timebase.c ≤ s.timebase.cc + 1))

/-- The store stays and the Timebase moves. -/
structure TimebaseMoved (s u : State) : Prop extends StoreKept s u where
  move : TimebaseMove s u.timebase u.due.boundary

/-- The store stays, and the Timebase stays or moves. -/
def Moved (s u : State) : Prop := Untouched s u ∨ TimebaseMoved s u

/-- A plan that is READY is a plan (R17). -/
theorem ready_isPlan {s : State} {p : Nat} (h : ready s p = true) : isPlan p = true := by
  by_contra hp
  have out : s.store.plan p = .erased := by
    unfold Store.plan nth
    simp [isPlan] at hp
    split
    · exact dif_neg (by omega)
    · rfl
  simp [ready, out, PlanRecord.erased] at h

section
variable {s : State}

/-- A moved Timebase stays moved under what leaves the store and the Timebase. -/
theorem Moved.then_eq {u v : State} (h : Moved s u) (hs : StoreKept u v)
    (ht : v.timebase = u.timebase) (hb : v.due.boundary = u.due.boundary) : Moved s v := by
  rcases h with h | h
  · exact .inl (h.trans ⟨hs, by rw [ht], hb⟩)
  · exact .inr ⟨h.toStoreKept.trans hs, by rw [ht, hb]; exact h.move⟩

theorem Moved.settle {u : State} (h : Moved s u) : Moved s (settle u) :=
  h.then_eq (settle_untouched u).toStoreKept (by simp) (by simp)

/-- A request whose accepted effect leaves or moves the Timebase. -/
theorem serve_moved {α : Type} {k : RequestKind} {parse : List Byte → Option α}
    {answer : Taken → α → State → Answer} {effect : Taken → α → State → State}
    (h : ∀ t body r, (answer t body (takeFrame t.port s)).code = .ok →
      Moved s (effect t body (answered s t .ok r))) :
    Moved s (serve k parse answer effect s) := by
  obtain e | ⟨t, _, _, ⟨c, _, e⟩ | ⟨body, r, _, _, ha, _, e⟩⟩ :=
    serve_cases (k := k) (parse := parse) (answer := answer) (effect := effect) (s := s) <;> rw [e]
  · exact .inl (.refl s)
  · exact .inl (answered_untouched s t c [])
  · exact (h t body r ha).settle

theorem whenRunning_moved {act : State → State} (h : Moved s (act s)) : Moved s (whenRunning act s) := by
  unfold whenRunning
  split
  · exact .inl (.refl s)
  · exact h

/-- A state with another pending plan. -/
theorem setPendingPlan_timebase (p : Nat) (s : State) :
    (setPendingPlan p s).timebase = { s.timebase with pendingPlan := p } := by
  simp [setPendingPlan]

theorem setPendingPlan_moved {p : Nat} {v : State} (h : StoreKept s v)
    (ht : v.timebase = s.timebase) (hb : v.due.boundary = s.due.boundary)
    (running : s.timebase.mode = .run) (plan : p = 0 ∨ isPlan p = true ∧ p ≠ s.timebase.active) :
    Moved s (setPendingPlan p v) := by
  refine .inr ⟨h.trans (by simp [storeKept_iff]), ?_⟩
  rw [setPendingPlan_timebase, ht]
  simpa [hb] using TimebaseMove.pending p running plan

theorem applyPlanPin_moved {p : Nat} {v : State} (h : StoreKept s v)
    (ht : v.timebase = s.timebase) (hb : v.due.boundary = s.due.boundary) (plan : isPlan p = true) :
    Moved s (applyPlanPin p v) := by
  have stays : Moved s v := .inl ⟨h, by rw [ht], hb⟩
  unfold applyPlanPin
  simp only [ht]
  split
  · exact stays
  · next running =>
    rw [ne_eq, not_not] at running
    split
    · split
      · exact stays
      · exact setPendingPlan_moved h ht hb running (.inl rfl)
    · next other =>
      split
      · exact stays
      · exact setPendingPlan_moved h ht hb running (.inr ⟨plan, other⟩)

theorem pinPlan_moved {t : Taken} {p : Nat} {r : List Byte}
    (h : (answerPinPlan t p (takeFrame t.port s)).code = .ok) :
    Moved s (effectPinPlan t p (answered s t .ok r)) := by
  unfold effectPinPlan
  split
  · exact .inl (by simp [untouched_iff, storeKept_iff])
  · next nonzero =>
    have small : ¬ 24 < p := fun big => by simp [answerPinPlan, firstRefusal_cons, big] at h
    exact applyPlanPin_moved (by simp [storeKept_iff]) (by simp) (by simp) (by simp [isPlan]; omega)

theorem enterEntering_timebase (p : Nat) (s : State) :
    (enterEntering p s).timebase = { s.timebase with mode := .entering, entry := p } := by
  simp [enterEntering]

theorem release_moved {t : Taken} {p : Nat} {r : List Byte}
    (h : (answerRelease t p (takeFrame t.port s)).code = .ok) :
    Moved s (effectRelease t p (answered s t .ok r)) := by
  have plan : isPlan p = true := by
    cases hp : isPlan p with
    | true => rfl
    | false => simp [answerRelease, firstRefusal_cons, hp] at h
  have held : s.timebase.mode = .hold := by
    by_contra hm
    simp [answerRelease, firstRefusal_cons, hm, plan] at h
  refine .inr ⟨by simp [storeKept_iff, effectRelease], ?_⟩
  simpa [effectRelease, enterEntering_timebase] using TimebaseMove.enter p plan held

theorem stopCoordination_timebase (reason : DropReason) (s : State) :
    (stopCoordination reason s).timebase = heldTimebase s.timebase ∧
    (stopCoordination reason s).due.boundary = false := by
  simp [stopCoordination, Due.nothing]

theorem enterHold_moved {t : Taken} {r : List Byte} {b : Unit} :
    Moved s (effectEnterHold t b (answered s t .ok r)) := by
  refine .inr ⟨by simp [storeKept_iff, effectEnterHold], ?_⟩
  have h := stopCoordination_timebase .hold (answered s t .ok r)
  simpa [effectEnterHold, holdEffects, h] using TimebaseMove.hold _

theorem resetEngine_moved {t : Taken} {r : List Byte} {b : Unit} :
    Moved s (effectResetEngine t b (answered s t .ok r)) := by
  refine .inr ⟨by simp [storeKept_iff, effectResetEngine], ?_⟩
  have h := stopCoordination_timebase .engineReset (emptyBeat (answered s t .ok r))
  simp only [effectResetEngine, engineReset, resetCoordination]
  split
  · simpa [h] using TimebaseMove.hold (s := s) (heldTimebase s.timebase).beatSeq
  · simpa [h] using TimebaseMove.hold (s := s) _

theorem switchPlan_timebase (set : TargetSet) (s : State) :
    (switchPlan set s).timebase =
      { s.timebase with
        active := s.timebase.pendingPlan, pendingPlan := 0
        c := (s.store.plan s.timebase.pendingPlan).head.c } := by
  simp [switchPlan]

theorem cycleBoundary_moved : Moved s (cycleBoundary s) := by
  unfold cycleBoundary
  split
  · next due =>
    refine Moved.settle (.inr ⟨by simp [storeKept_iff], ?_⟩)
    unfold boundary
    split
    · exact .passed
    · split
      · next h =>
        rw [switchPlan_timebase]
        simpa using TimebaseMove.switch due h.1
      · exact .passed
  · exact .inl (.refl s)

theorem matchingStep_moved {v : State} (h : StoreKept s v) (ht : v.timebase = s.timebase)
    (hb : v.due.boundary = s.due.boundary) (running : s.timebase.mode = .run) :
    Moved s (matchingStep v) := by
  have stays : ∀ w, StoreKept v w → w.timebase = v.timebase → w.due.boundary = v.due.boundary →
      Moved s w := fun w hw hwt hwb => .inl ⟨h.trans hw, by rw [hwt, ht], hwb.trans hb⟩
  unfold matchingStep
  split
  · exact stays v ⟨rfl, rfl, rfl, rfl⟩ rfl rfl
  · split
    · exact stays _ (by simp [storeKept_iff]) (by simp) (by simp)
    · next e found =>
      split
      · exact stays _ (by simp [storeKept_iff]) (by simp) (by simp)
      · next other =>
        have hm := List.find?_some found
        simp only [matchesEntry, Bool.and_eq_true] at hm
        obtain ⟨⟨⟨⟨_, isReady⟩, _⟩, _⟩, _⟩ := hm
        rw [ht, not_or] at other
        split
        · exact setPendingPlan_moved (h.trans (by simp [storeKept_iff])) (by simp [ht])
            (by simp [hb]) running (.inr ⟨ready_isPlan isReady, other.1⟩)
        · exact stays _ (by simp [storeKept_iff]) (by simp) (by simp)

theorem selectorEvaluation_moved : Moved s (selectorEvaluation s) := by
  unfold selectorEvaluation
  split
  · next due =>
    exact (matchingStep_moved (by simp [storeKept_iff]) (by simp) (by simp)
      ((evaluationDue_iff s).1 due).1).settle
  · exact .inl (.refl s)

/-- What the plan pin makes of the pending plan at the entry into RUN (R107). -/
theorem checkPinAtEntry_timebase (s : State) :
    ∃ p, (checkPinAtEntry s).timebase = { s.timebase with pendingPlan := p } ∧
      (p = s.timebase.pendingPlan ∨ isPlan p = true ∧ p ≠ s.timebase.active) := by
  unfold checkPinAtEntry
  split
  · exact ⟨_, rfl, .inl rfl⟩
  · next p _ =>
    split
    · exact ⟨_, rfl, .inl rfl⟩
    · next other =>
      split
      · next isReady => exact ⟨p, setPendingPlan_timebase p s, .inr ⟨ready_isPlan isReady, other⟩⟩
      · exact ⟨_, rfl, .inl rfl⟩

/-- The entry into RUN, with what the plan pin makes pending (R54, R107). -/
theorem enterRun_moved {v : State} (h : StoreKept s v) (ht : v.timebase = s.timebase)
    (hb : v.due.boundary = s.due.boundary) (entering : s.timebase.mode = .entering) :
    Moved s (enterRun v) := by
  refine .inr ⟨h.trans (by simp [storeKept_iff]), ?_⟩
  have due : (enterRun v).due.boundary = s.due.boundary := by simp [hb]
  rw [due]
  unfold enterRun
  dsimp only
  generalize hw : queueNotice _ _ = w
  have running : w.timebase =
      { mode := .run, cc := 0, c := (s.store.plan s.timebase.entry).head.c
        active := s.timebase.entry, pendingPlan := s.timebase.pendingPlan, entry := 0
        divider := some 0, beatSeq := (s.timebase.beatSeq + 1) % 256 } := by
    simp [← hw, ht, h.store]
  obtain ⟨p, hp, plan⟩ := checkPinAtEntry_timebase w
  rw [hp, running]
  rw [running] at plan
  exact .start p _ entering plan

theorem publish_moved (x : Snapshot) : Moved s (publish x s) := by
  have entered : ∀ w, StoreKept s w → w.timebase = s.timebase → w.due.boundary = s.due.boundary →
      Moved s (if s.timebase.mode = .entering then enterRun w else w) := by
    intro w hs ht hb
    split
    · next entering => exact enterRun_moved hs ht hb entering
    · exact .inl ⟨hs, by rw [ht], hb⟩
  unfold publish
  dsimp only
  apply entered <;> split <;> simp [storeKept_iff]

theorem completeComputation_moved (x : Snapshot) : Moved s (completeComputation x s) := by
  have published : Moved s (settle (if discards s x then s else publish x s)) := by
    refine Moved.settle ?_
    split
    · exact .inl (.refl s)
    · exact publish_moved x
  unfold completeComputation
  dsimp only
  generalize settle (if discards s x then s else publish x s) = v at published ⊢
  split <;> exact published.then_eq (by simp [storeKept_iff]) (by simp) (by simp)

theorem computationDone_moved : Moved s (computationDone s) := by
  unfold computationDone
  split
  · exact .inl (.refl s)
  · exact completeComputation_moved _

theorem tick_moved : Moved s (tick s) := by
  unfold tick
  split
  · exact .inl (.refl s)
  · split
    · next running =>
      refine .inr ⟨by simp [storeKept_iff, tickRun, tickClocks], ?_⟩
      simpa [tickRun, tickClocks] using TimebaseMove.tick running
    · exact .inl (by simp [untouched_iff, storeKept_iff, tickClocks])

end

end Sys2Proof.Machine
end

section
/-! What a completed command has done, said once for all fifty. -/

namespace Sys2Proof.Machine

open Sys2Proof

/-- The eight store-changing requests (R1). -/
def storeWriters : List Instr :=
  [.writePlanHead, .writePlanGroup, .erasePlan, .checkPlan, .writeGeometryHead, .writeGeometryGroup,
   .checkGeometry, .writeSelection]

/-- What a completed command has done to the Plan Store and the Timebase. -/
inductive ExecDid (c : Instr) (s u : State) : Prop
  | moved (h : Moved s u)
  | wrote (writer : c ∈ storeWriters) (h : StoreWritten s u)
  | retained (is : c = .retentionComplete) (h : u = completeRetention s)
  | asserted (is : c = .resetNAssert) (h : u = assertReset s)
  | restarted (pins : Straps) (is : (∃ p, c = .hardwareReset p) ∨ ∃ p, c = .resetUnitTakesEffect p)
      (h : u = startDecision (restart (s.setStraps pins)))

/-- A command that completes in one state completes in no other. -/
theorem next_inj {v u : State} (h : (.next v : Host.Outcome State Fault Refusal) = .next u) : v = u :=
  Host.Outcome.next.inj h

section
variable {c : Instr} {s : State}

theorem ExecDid.untouched {u : State} (h : Untouched s u) : ExecDid c s u := .moved (.inl h)

theorem ExecDid.served {u : State} (writer : c ∈ storeWriters)
    (h : Untouched s u ∨ StoreWritten s u) : ExecDid c s u := h.elim .untouched (.wrote writer)

/-- An event of one junction acts on a junction record, or stops. -/
theorem next_of_junction {j : Nat} {act : Junction → State → State} {u : State}
    (h : (match junctionAt j with
      | some j => .next (whenRunning (act j) s)
      | none => .fault .noSuchJunction : Host.Outcome State Fault Refusal) = .next u) :
    ∃ j, u = whenRunning (act j) s := by
  split at h
  · exact ⟨_, (next_inj h).symm⟩
  · cases h

end

theorem completeRetention_did (s : State) :
    ExecDid .retentionComplete s (whenRunning completeRetention s) := by
  unfold whenRunning
  split
  · exact .untouched (.refl s)
  · exact .retained rfl rfl

theorem resetUnitNow_did (pins : Straps) (s : State) :
    ExecDid (.resetUnitTakesEffect pins) s (whenRunning (resetUnitNow pins) s) := by
  unfold whenRunning resetUnitNow
  split
  · exact .untouched (.refl s)
  · split
    · exact .untouched (.refl s)
    · split
      · exact .restarted pins (.inr ⟨pins, rfl⟩) rfl
      · exact .restarted s.straps (.inr ⟨pins, rfl⟩) rfl

/-- Every completed command did one of these. -/
theorem exec_did {c : Instr} {s u : State} (h : exec c s = .next u) : ExecDid c s u := by
  cases c with
  | report =>
    obtain rfl := next_inj h
    exact .untouched (serve_untouched (fun t body v => effectReport_untouched t v body) s)
  | priorityCall =>
    obtain rfl := next_inj h
    exact .untouched (serve_untouched (fun t body v => effectCall_untouched t v body) s)
  | priorityCancel =>
    obtain rfl := next_inj h
    exact .untouched (serve_untouched (fun t body v => effectCancel_untouched t v body) s)
  | readStatus =>
    obtain rfl := next_inj h
    exact .untouched (serve_untouched (fun t body v => effectStatus_untouched t v body) s)
  | readJunction | readBand | readPlanHead | readPlanGroup | readGeometryHead | readGeometryGroup
  | readSelection =>
    obtain rfl := next_inj h
    exact .untouched (serve_untouched (fun t body v => noEffect_untouched t v body) s)
  | writePlanHead =>
    obtain rfl := next_inj h
    exact .served (by simp [storeWriters]) (serve_storeWritten fun _ _ _ => planHeadWrite_written)
  | writePlanGroup =>
    obtain rfl := next_inj h
    exact .served (by simp [storeWriters]) (serve_storeWritten fun _ _ _ => planGroupWrite_written)
  | erasePlan =>
    obtain rfl := next_inj h
    exact .served (by simp [storeWriters]) (serve_storeWritten fun _ _ _ => planErase_written)
  | checkPlan =>
    obtain rfl := next_inj h
    exact .served (by simp [storeWriters]) (serve_storeWritten fun _ _ _ => planCheck_written)
  | writeGeometryHead =>
    obtain rfl := next_inj h
    exact .served (by simp [storeWriters]) (serve_storeWritten fun _ _ _ => geometryHeadWrite_written)
  | writeGeometryGroup =>
    obtain rfl := next_inj h
    exact .served (by simp [storeWriters]) (serve_storeWritten fun _ _ _ => geometryGroupWrite_written)
  | checkGeometry =>
    obtain rfl := next_inj h
    exact .served (by simp [storeWriters]) (serve_storeWritten fun _ _ _ => geometryCheck_written)
  | writeSelection =>
    obtain rfl := next_inj h
    exact .served (by simp [storeWriters]) (serve_storeWritten fun _ _ _ => selectionWrite_written)
  | pinPlan =>
    obtain rfl := next_inj h
    exact .moved (serve_moved fun _ _ _ => pinPlan_moved)
  | pinBias =>
    obtain rfl := next_inj h
    exact .untouched (serve_untouched (fun t body v => effectPinBias_untouched t v body) s)
  | releaseHold =>
    obtain rfl := next_inj h
    exact .moved (serve_moved fun _ _ _ => release_moved)
  | enterHold =>
    obtain rfl := next_inj h
    exact .moved (serve_moved fun _ _ _ _ => enterHold_moved)
  | resetUnit =>
    obtain rfl := next_inj h
    exact .untouched (serve_untouched (fun t body v => effectResetUnit_untouched t v body) s)
  | resetEngine =>
    obtain rfl := next_inj h
    exact .moved (serve_moved fun _ _ _ _ => resetEngine_moved)
  | unknownKind =>
    obtain rfl := next_inj h
    exact .untouched (serveUnknown_untouched s)
  | resetNAssert =>
    obtain rfl := next_inj h
    exact .asserted rfl rfl
  | hardwareReset pins =>
    obtain rfl := next_inj h
    exact .restarted pins (.inl ⟨pins, rfl⟩) rfl
  | resetUnitTakesEffect pins =>
    obtain rfl := next_inj h
    exact resetUnitNow_did pins s
  | cycleBoundary =>
    obtain rfl := next_inj h
    exact .moved (whenRunning_moved cycleBoundary_moved)
  | evaluation =>
    obtain rfl := next_inj h
    exact .moved (whenRunning_moved selectorEvaluation_moved)
  | computationComplete =>
    obtain rfl := next_inj h
    exact .moved (whenRunning_moved computationDone_moved)
  | decisecondTick =>
    obtain rfl := next_inj h
    exact .moved (whenRunning_moved tick_moved)
  | localZero j =>
    obtain ⟨i, rfl⟩ := next_of_junction (act := localZero) h
    exact .untouched (whenRunning_untouched (fun v => localZero_untouched v i) s)
  | windowClose j =>
    obtain ⟨i, rfl⟩ := next_of_junction (act := windowClose) h
    exact .untouched (whenRunning_untouched (fun v => windowClose_untouched v i) s)
  | priorityExpiry j tag =>
    obtain ⟨i, rfl⟩ := next_of_junction (act := fun j => expireEntry j tag) h
    exact .untouched (whenRunning_untouched (fun v => expireEntry_untouched v i tag) s)
  | beatDue =>
    obtain rfl := next_inj h
    exact .untouched (whenRunning_untouched (fun v => beatNow_untouched v) s)
  | pinLapse =>
    obtain rfl := next_inj h
    exact .untouched (whenRunning_untouched (fun v => pinLapse_untouched v) s)
  | periodEnd =>
    obtain rfl := next_inj h
    exact .untouched (whenRunning_untouched (fun v => periodEnd_untouched v) s)
  | lineBusy =>
    obtain rfl := next_inj h
    exact .untouched (whenRunning_untouched (fun v => lineBusy_untouched v) s)
  | lineFree chars =>
    obtain rfl := next_inj h
    exact .untouched (whenRunning_untouched (fun v => lineFree_untouched v chars) s)
  | lineFault =>
    obtain rfl := next_inj h
    exact .untouched (whenRunning_untouched (fun v => lineFault_untouched v) s)
  | frameComplete =>
    obtain rfl := next_inj h
    exact .untouched (whenRunning_untouched (fun v => frameComplete_untouched v) s)
  | arbitrationLoss =>
    obtain rfl := next_inj h
    exact .untouched (whenRunning_untouched (fun v => arbitrationLoss_untouched v) s)
  | lineFrameReceived chars =>
    obtain rfl := next_inj h
    exact .untouched (whenRunning_untouched (fun v => lineReceive_untouched v chars) s)
  | centreFrameReceived chars =>
    obtain rfl := next_inj h
    exact .untouched (whenRunning_untouched (fun v => centreReceive_untouched v chars) s)
  | centreFrameComplete =>
    obtain rfl := next_inj h
    exact .untouched (whenRunning_untouched (fun v => centreComplete_untouched v) s)
  | lineFrameDiscarded f chars =>
    obtain rfl := next_inj h
    exact .untouched (whenRunning_untouched (fun v => lineDiscard_untouched v f chars) s)
  | centreFrameDiscarded f chars =>
    obtain rfl := next_inj h
    exact .untouched (whenRunning_untouched (fun v => centreDiscard_untouched v f chars) s)
  | retentionComplete =>
    obtain rfl := next_inj h
    exact completeRetention_did s

end Sys2Proof.Machine
end

section
/-! The two copies of the store: what intact retained memory loads, and that the working copy and the
retained one differ in the record being written alone (R20, R22). -/

namespace Sys2Proof.Machine

open Sys2Proof

/-- Every command but its own eight requests and the resets leaves the store.

Settles O20, by the cases of what a completed command has done. -/
theorem storeChangesByItsOwnCommands : Obligations.StoreChangesByItsOwnCommands := by
  intro c s u h hard unit
  cases exec_did h with
  | moved h =>
    have kept : StoreKept s u := h.elim Untouched.toStoreKept TimebaseMoved.toStoreKept
    exact ⟨kept.straps, fun _ _ => kept.retained, fun _ => ⟨kept.store, fun _ _ => kept.retention⟩⟩
  | wrote writer h => exact ⟨h.straps, fun _ _ => h.retained, fun other => absurd writer other⟩
  | retained is h =>
    have kept : u.straps = s.straps ∧ u.store = s.store := by
      rw [h, completeRetention]
      split <;> simp
    exact ⟨kept.1, fun other => absurd is other, fun _ => ⟨kept.2, fun other => absurd is other⟩⟩
  | asserted is h =>
    subst h
    exact ⟨rfl, fun _ other => absurd is other, fun _ => ⟨rfl, fun _ other => absurd is other⟩⟩
  | restarted _ is h =>
    obtain ⟨p, is⟩ | ⟨p, is⟩ := is
    · exact absurd is (hard p)
    · exact absurd is (unit p)

/-! ### What intact retained memory holds -/

/-- A retained plan of which no record is torn, and which holds erase values under an erase mark. -/
structure RetainedPlan.Sound (k : RetainedPlan) : Prop where
  head   : k.headTorn = false
  groups : ∀ g : Fin 3, k.groupTorn[g] = false
  state  : k.stateTorn = none
  mark   : k.eraseMark = true → k.record = .erased

/-- Retained memory of which no record is torn, with erase values under every erase mark. -/
structure Retained.Sound (r : Retained) : Prop where
  head      : r.headTorn = false
  groups    : ∀ g : Fin 3, r.groupTorn[g] = false
  plans     : ∀ p : Fin 24, r.plans[p].Sound
  selection : ∀ i : Fin 16, r.selectionTorn[i] = false

/-- The values in the cells of retained memory. -/
def Retained.contents (r : Retained) : Store :=
  { geometry := r.geometry, plans := Vector.ofFn fun p => r.plans[p].record, selection := r.selection }

theorem anyTorn_iff (torn : Vector Bool 3) : anyTorn torn = false ↔ ∀ g : Fin 3, torn[g] = false := by
  simp [anyTorn, Fin.forall_fin_succ, and_assoc]

theorem intact_iff (r : Retained) : r.intact = true ↔
    r.headTorn = false ∧ (∀ g : Fin 3, r.groupTorn[g] = false) ∧
    (∀ p : Fin 24, r.plans[p].headTorn = false ∧ (∀ g : Fin 3, r.plans[p].groupTorn[g] = false) ∧
      r.plans[p].stateTorn = none) ∧
    ∀ i : Fin 16, r.selectionTorn[i] = false := by
  simp only [Retained.intact, Bool.and_eq_true, Bool.not_eq_true', decide_eq_true_eq, anyTorn_iff,
    and_assoc]

theorem sound_iff (r : Retained) : r.intact = true ∧ r.marksErased = true ↔ r.Sound := by
  rw [intact_iff, Retained.marksErased, decide_eq_true_iff]
  constructor
  · rintro ⟨⟨head, groups, plans, selection⟩, marks⟩
    exact ⟨head, groups, fun p => ⟨(plans p).1, (plans p).2.1, (plans p).2.2, marks p⟩, selection⟩
  · rintro ⟨head, groups, plans, selection⟩
    exact ⟨⟨head, groups, fun p => ⟨(plans p).head, (plans p).groups, (plans p).state⟩, selection⟩,
      fun p => (plans p).mark⟩

/-- Two stores that agree in every record are one. -/
theorem store_ext {a b : Store} (geometry : a.geometry = b.geometry)
    (plans : ∀ p : Fin 24, a.plans[p] = b.plans[p])
    (selection : ∀ i : Fin 16, a.selection[i] = b.selection[i]) : a = b := by
  cases a
  cases b
  simp only [Store.mk.injEq]
  exact ⟨geometry, Vector.ext fun i hi => plans ⟨i, hi⟩, Vector.ext fun i hi => selection ⟨i, hi⟩⟩

theorem contents_geometry_eq (r : Retained) : r.contents.geometry = r.geometry := rfl

theorem contents_selection_eq (r : Retained) : r.contents.selection = r.selection := rfl

theorem contents_plans (r : Retained) (p : Fin 24) :
    r.contents.plans[p] = r.plans[p].record := by
  simp [Retained.contents]

/-- Entry j as loaded: its blank value where its group is torn. -/
theorem loadEntries_getElem {α : Type} (kept : Vector α 12) (torn : Vector Bool 3)
    (blank : Vector α 12) (j : Fin 12) :
    (loadEntries kept torn blank)[j] =
      if torn[Fin.ofNat 3 (j.val / 4)] = true then blank[j] else kept[j] := by
  have lt : j.val / 4 < 3 := by omega
  simp [loadEntries, nth, lt, Fin.ofNat, Nat.mod_eq_of_lt]

theorem loadEntries_whole {α : Type} (kept blank : Vector α 12) {torn : Vector Bool 3}
    (h : ∀ g : Fin 3, torn[g] = false) : loadEntries kept torn blank = kept :=
  Vector.ext fun j hj => by
    have := loadEntries_getElem kept torn blank ⟨j, hj⟩
    simpa [h] using this

theorem loadGeometry_whole {r : Retained} (head : r.headTorn = false)
    (groups : ∀ g : Fin 3, r.groupTorn[g] = false) : loadGeometry r = r.geometry := by
  simp [loadGeometry, head, (anyTorn_iff _).2 groups, loadEntries_whole _ _ groups]

/-- A plan of which nothing is torn loads as retained, or erased under its mark. -/
theorem loadPlan_whole {k : RetainedPlan} (head : k.headTorn = false)
    (groups : ∀ g : Fin 3, k.groupTorn[g] = false) (state : k.stateTorn = none) :
    loadPlan k = if k.eraseMark = true then .erased else k.record := by
  simp [loadPlan, head, state, (anyTorn_iff _).2 groups]

theorem RetainedPlan.Sound.load {k : RetainedPlan} (h : k.Sound) : loadPlan k = k.record := by
  rw [loadPlan_whole h.head h.groups h.state]
  split
  · next marked => exact (h.mark marked).symm
  · rfl

/-- Sound retained memory loads what its cells hold. -/
theorem Retained.Sound.load {r : Retained} (h : r.Sound) : loadStore r = r.contents := by
  apply store_ext
  · exact loadGeometry_whole h.head h.groups
  · intro p
    rw [contents_plans, ← (h.plans p).load]
    exact Vector.getElem_ofFn p.isLt
  · intro i
    have whole : r.selectionTorn[i.val] = false := h.selection i
    simp [loadStore, whole, contents]

/-! ### The completion of a write -/

/-- The retained copy of plan q once that of plan p has been replaced. -/
theorem Retained.setPlan_plans (r : Retained) (p q : Fin 24) (k : RetainedPlan) :
    (r.setPlan p k).plans[q] = if p = q then k else r.plans[q] := by
  simp [Retained.setPlan, Vector.getElem_set, Fin.ext_iff]

theorem Retained.Sound.setPlan {r : Retained} (h : r.Sound) (p : Fin 24) {k : RetainedPlan}
    (hk : k.Sound) : (r.setPlan p k).Sound := by
  refine ⟨h.head, h.groups, fun q => ?_, h.selection⟩
  rw [Retained.setPlan_plans]
  split
  · exact hk
  · exact h.plans q

/-- A flag cleared among clear flags. -/
theorem set_false {n : Nat} {v : Vector Bool n} (h : ∀ i : Fin n, v[i] = false) (i j : Fin n) :
    (v.set i.val false i.isLt)[j] = false := by
  have := h j
  simp only [Fin.getElem_fin] at this ⊢
  rw [Vector.getElem_set]
  split <;> simp [this]

/-- A completed write leaves retained memory sound, where an erase write carries an erased plan. -/
theorem keepRecord_sound {st : Store} {r : Retained} {record : RetentionRecord} (h : r.Sound)
    (erased : ∀ p, record = .planState p true → st.plans[p] = .erased) :
    (keepRecord st r record).Sound := by
  cases record with
  | geometryHead => exact ⟨rfl, h.groups, h.plans, h.selection⟩
  | geometryGroup g => exact ⟨h.head, set_false h.groups g, h.plans, h.selection⟩
  | planHead p =>
    exact h.setPlan p ⟨rfl, (h.plans p).groups, (h.plans p).state, fun marked => by cases marked⟩
  | planGroup p g =>
    exact h.setPlan p ⟨(h.plans p).head, set_false (h.plans p).groups g, (h.plans p).state,
      fun marked => by cases marked⟩
  | planState p erase =>
    cases erase with
    | false =>
      exact h.setPlan p ⟨(h.plans p).head, (h.plans p).groups, rfl, fun marked => by cases marked⟩
    | true => exact h.setPlan p ⟨rfl, fun g => by simp [RetainedPlan.keepErase], rfl,
        fun _ => erased p rfl⟩
  | selectionEntry i => exact ⟨h.head, h.groups, h.plans, set_false h.selection i⟩

/-- The cells of a group, once copied from a working copy that differs in that group alone, hold it. -/
theorem blankGroup_replaceGroup {α : Type} (old : Vector α 12) (g : Fin 3) (four : Vector α 4) :
    blankGroup old g.val (replaceGroup old g.val four) = replaceGroup old g.val four := by
  apply Vector.ext
  intro i hi
  simp only [blankGroup, replaceGroup, Vector.getElem_ofFn]
  split <;> simp_all

/-- The cells of one plan take new values. -/
theorem contents_setPlan (r : Retained) (p : Fin 24) (k : RetainedPlan) :
    (r.setPlan p k).contents = r.contents.putPlan p k.record := by
  refine store_ext rfl (fun q => ?_) (fun _ => rfl)
  rw [contents_plans, Retained.setPlan_plans, Store.putPlan_plans, contents_plans]
  split <;> rfl

/-- The cells of the geometry take new values. -/
theorem contents_putGeometry (r : Retained) (g : Geometry) (head : Bool) (groups : Vector Bool 3) :
    ({ r with geometry := g, headTorn := head, groupTorn := groups } : Retained).contents =
      { r.contents with geometry := g } := rfl

/-- The cells of the selection table take new values. -/
theorem contents_putSelection (r : Retained) (table : Vector SelectionEntry 16) (torn : Vector Bool 16) :
    ({ r with selection := table, selectionTorn := torn } : Retained).contents =
      { r.contents with selection := table } := rfl

/-- Where the cells held the working copy before a write, they hold it once that write has completed. -/
theorem StoreWrite.contents {s : State} {store : Store} {record : RetentionRecord} {r : Retained}
    (h : StoreWrite s store (some record)) (same : r.contents = s.store) :
    (keepRecord store r record).contents = store := by
  have plans : ∀ p : Fin 24, r.plans[p].record = s.store.plans[p] := fun p => by
    rw [← same, contents_plans]
  have geometry : r.geometry = s.store.geometry := by rw [← same]; rfl
  have selection : r.selection = s.store.selection := by rw [← same]; rfl
  cases h with
  | planHead p head free ranges =>
    simp only [keepRecord, contents_setPlan, same, Store.putPlan_plans, if_pos,
      RetainedPlan.keepHead, keepPlanState, plans]
  | planGroup p g four ranges =>
    simp only [keepRecord, contents_setPlan, same, Store.putPlan_plans, if_pos,
      RetainedPlan.keepGroup, keepPlanState, plans, blankGroup_replaceGroup]
  | planErase p free =>
    simp only [keepRecord, contents_setPlan, same, Store.putPlan_plans, if_pos,
      RetainedPlan.keepErase]
  | planCheck p state stamp fault =>
    simp only [keepRecord, contents_setPlan, same, Store.putPlan_plans, if_pos,
      RetainedPlan.keepState, keepPlanState, plans]
  | geometryHead head ranges =>
    simp only [keepRecord, keepGeometryHead, geometry, contents_putGeometry, same]
  | geometryGroup g four ranges =>
    simp only [keepRecord, keepGeometryGroup, geometry, contents_putGeometry, same,
      blankGroup_replaceGroup]
  | geometryCheck state fault stamp =>
    simp only [keepRecord, keepGeometryHead, geometry, contents_putGeometry, same]
  | selection i entry ranges =>
    simp only [keepRecord, contents_putSelection, same, selection, Fin.getElem_fin, Vector.getElem_set_self]

/-! ### The agreement of the copies (R22) -/

theorem copiesAgree_iff (s : State) :
    CopiesAgree s ↔ s.retained.Sound ∧ loadStore (retainedAfterWrite s) = s.store := by
  rw [CopiesAgree, ← and_assoc, sound_iff]

/-- Without a write in progress the cells hold the working copy. -/
theorem CopiesAgree.contents {s : State} (h : CopiesAgree s) (idle : s.retention = none) :
    s.retained.contents = s.store := by
  obtain ⟨sound, load⟩ := (copiesAgree_iff s).1 h
  rw [← sound.load, ← load, retainedAfterWrite, idle]

/-- The agreement speaks of the store, the record being written and the retained copy alone. -/
theorem CopiesAgree.congr {s u : State} (h : CopiesAgree s) (store : u.store = s.store)
    (retention : u.retention = s.retention) (retained : u.retained = s.retained) : CopiesAgree u := by
  simpa only [CopiesAgree, retainedAfterWrite, store, retention, retained] using h

theorem StoreWritten.copiesAgree {s u : State} (h : StoreWritten s u) (agree : CopiesAgree s) :
    CopiesAgree u := by
  have same := agree.contents h.idle
  have write := h.write
  obtain ⟨sound, _⟩ := (copiesAgree_iff s).1 agree
  rw [copiesAgree_iff, h.retained]
  refine ⟨sound, ?_⟩
  cases hr : u.retention with
  | none =>
    rw [hr] at write
    have kept : u.store = s.store := by
      generalize u.store = store at write ⊢
      cases write
      rfl
    rw [retainedAfterWrite, hr, kept, h.retained, sound.load, same]
  | some record =>
    rw [hr] at write
    have erased : ∀ p, record = .planState p true → u.store.plans[p] = .erased := by
      rintro p rfl
      generalize u.store = store at write
      cases write
      rw [Store.putPlan_plans, if_pos rfl]
    simp only [retainedAfterWrite, hr, h.retained]
    rw [(keepRecord_sound sound erased).load, write.contents same]

theorem completeRetention_copiesAgree {s : State} (agree : CopiesAgree s) :
    CopiesAgree (completeRetention s) := by
  obtain ⟨sound, load⟩ := (copiesAgree_iff s).1 agree
  unfold completeRetention
  split
  · exact agree
  · next record hr =>
    simp only [retainedAfterWrite, hr] at load
    have erased : ∀ p, record = .planState p true → s.store.plans[p] = .erased := by
      rintro p rfl
      have marked : loadPlan (s.retained.plans[p].keepErase s.store.plans[p]) = .erased :=
        loadPlan_whole rfl (fun g => by simp [RetainedPlan.keepErase]) rfl
      have loaded : (loadStore (keepRecord s.store s.retained (.planState p true))).plans[p] =
          s.store.plans[p] := by rw [load]
      rw [← loaded, ← marked]
      simp only [loadStore, keepRecord]
      rw [Fin.getElem_fin, Vector.getElem_ofFn, Retained.setPlan_plans, if_pos rfl]
    rw [copiesAgree_iff]
    exact ⟨keepRecord_sound sound erased, load⟩

/-- A reset that finds no write in progress tears nothing. -/
theorem Retained.Sound.tearWrite {r : Retained} (h : r.Sound) : tearWrite r none = r :=
  tearWrite_none fun p => by rw [(h.plans p).state]; simp

theorem startDecision_storeKept (s : State) : StoreKept s (startDecision s) := by
  unfold startDecision
  dsimp only
  split <;> simp [storeKept_iff]

/-- Settles O18, by the cases of what a completed command has done. -/
theorem copiesAgreeKept : Obligations.CopiesAgreeKept := by
  intro c s u h agree calm
  have sound := ((copiesAgree_iff s).1 agree).1
  cases exec_did h with
  | moved h =>
    have kept : StoreKept s u := h.elim Untouched.toStoreKept TimebaseMoved.toStoreKept
    exact agree.congr kept.store kept.retention kept.retained
  | wrote _ h => exact h.copiesAgree agree
  | retained _ h => exact h ▸ completeRetention_copiesAgree agree
  | asserted is h =>
    have idle : s.retention = none := calm.resolve_right fun other => other.1 is
    subst h
    exact agree.congr rfl idle.symm (by simp [assertReset, idle, sound.tearWrite])
  | restarted pins is h =>
    have idle : s.retention = none := by
      refine calm.resolve_right fun ⟨_, hard, unit⟩ => ?_
      obtain ⟨p, is⟩ | ⟨p, is⟩ := is
      · exact hard p is
      · exact unit p is
    have kept := startDecision_storeKept (restart (s.setStraps pins))
    have torn : Machine.tearWrite s.retained s.retention = s.retained := by rw [idle, sound.tearWrite]
    subst h
    refine agree.congr (kept.store.trans ?_) (kept.retention.trans idle.symm)
      (kept.retained.trans ?_)
    · simp only [restart, setStraps_retained, setStraps_retention, torn]
      rw [sound.load, agree.contents idle]
    · exact torn

end Sys2Proof.Machine
end

section
/-! The safe Timebase: fields in their ranges in both copies of the store, and the moves of the Timebase
from one coherent state to another (R3, R9, R18, R51, R52, R58). -/

namespace Sys2Proof.Machine

open Sys2Proof

/-! ### Fields in their ranges -/

/-- Every field of the store lies in its range. -/
def Store.InRange (st : Store) : Prop :=
  FieldsInRange st.geometry (fun p => st.plans[p]) (fun i => st.selection[i])

/-- Every field of a plan record lies in its range (R9). -/
def PlanRecord.InRange (r : PlanRecord) : Prop :=
  PlanHeadRanges r.head ∧ ∀ j : Fin 12, PlanEntryRanges r.entries[j]

/-- Every field of the geometry record lies in its range (R3). -/
def Geometry.InRange (g : Geometry) : Prop :=
  GeometryHeadRanges g.head ∧ ∀ j : Fin 12, GeometryEntryRanges g.entries[j]

theorem inRange_iff (st : Store) : st.InRange ↔
    st.geometry.InRange ∧ (∀ p : Fin 24, st.plans[p].InRange) ∧
      ∀ i : Fin 16, SelectionEntryRanges st.selection[i] := by
  simp only [Store.InRange, FieldsInRange, Geometry.InRange, PlanRecord.InRange, and_assoc]

theorem storedInRange_iff (s : State) :
    StoredInRange s ↔ s.store.InRange ∧ s.retained.contents.InRange := by
  simp only [StoredInRange, Store.InRange, contents_plans]
  rfl

theorem planHead_erased_inRange : PlanHeadRanges .erased := by
  simp [PlanHeadRanges, PlanHead.erased]

theorem planEntry_erased_inRange : PlanEntryRanges .erased := by
  simp [PlanEntryRanges, PlanEntry.erased]

theorem erasedEntries_inRange (j : Fin 12) : PlanEntryRanges erasedEntries[j] := by
  simpa [erasedEntries] using planEntry_erased_inRange

theorem planRecord_erased_inRange : PlanRecord.erased.InRange :=
  ⟨planHead_erased_inRange, erasedEntries_inRange⟩

theorem geometryHead_blank_inRange : GeometryHeadRanges .blank := by
  simp [GeometryHeadRanges, GeometryHead.blank]

theorem blankEntries_inRange (j : Fin 12) : GeometryEntryRanges blankEntries[j] := by
  have := j.isLt
  simp [blankEntries, GeometryEntryRanges, GeometryEntry.blank]
  omega

theorem selectionEntry_blank_inRange : SelectionEntryRanges .blank := by
  simp [SelectionEntryRanges, SelectionEntry.blank]

/-! ### What the operations of the store make of a predicate on its records -/

/-- A predicate of every entry holds after a group has been replaced by entries that have it. -/
theorem forall_replaceGroup {α : Type} {P : α → Prop} {old : Vector α 12} {four : Vector α 4} (g : Nat)
    (h : ∀ j : Fin 12, P old[j]) (hnew : ∀ k : Fin 4, P four[k]) (j : Fin 12) :
    P (replaceGroup old g four)[j] := by
  rw [replaceGroup_groupReplaced old g four j]
  split
  · exact hnew _
  · exact h j

theorem forall_blankGroup {α : Type} {P : α → Prop} {old blank : Vector α 12} (g : Nat)
    (h : ∀ j : Fin 12, P old[j]) (hnew : ∀ j : Fin 12, P blank[j]) (j : Fin 12) :
    P (blankGroup old g blank)[j] := by
  have eq : (blankGroup old g blank)[j] = if j.val / 4 = g then blank[j] else old[j] := by
    simp [blankGroup]
  rw [eq]
  split
  · exact hnew j
  · exact h j

theorem forall_loadEntries {α : Type} {P : α → Prop} {kept blank : Vector α 12}
    (torn : Vector Bool 3) (h : ∀ j : Fin 12, P kept[j]) (hblank : ∀ j : Fin 12, P blank[j])
    (j : Fin 12) : P (loadEntries kept torn blank)[j] := by
  rw [loadEntries_getElem]
  split
  · exact hblank j
  · exact h j

theorem Store.InRange.putPlan {st : Store} (h : st.InRange) (p : Fin 24) {r : PlanRecord}
    (hr : r.InRange) : (st.putPlan p r).InRange := by
  obtain ⟨geometry, plans, selection⟩ := (inRange_iff st).1 h
  refine (inRange_iff _).2 ⟨geometry, fun q => ?_, selection⟩
  rw [Store.putPlan_plans]
  split
  · exact hr
  · exact plans q

theorem Store.InRange.putGeometry {st : Store} (h : st.InRange) {g : Geometry} (hg : g.InRange) :
    ({ st with geometry := g } : Store).InRange := by
  obtain ⟨_, plans, selection⟩ := (inRange_iff st).1 h
  exact (inRange_iff _).2 ⟨hg, plans, selection⟩

theorem Store.InRange.putSelection {st : Store} (h : st.InRange) (i : Fin 16) {e : SelectionEntry}
    (he : SelectionEntryRanges e) :
    ({ st with selection := st.selection.set i.val e i.isLt } : Store).InRange := by
  obtain ⟨geometry, plans, selection⟩ := (inRange_iff st).1 h
  refine (inRange_iff _).2 ⟨geometry, plans, fun j => ?_⟩
  have eq : (st.selection.set i.val e i.isLt)[j] = if i = j then e else st.selection[j] := by
    simp [Vector.getElem_set, Fin.ext_iff]
  rw [eq]
  split
  · exact he
  · exact selection j

theorem StoreWrite.inRange {s : State} {store : Store} {record : Option RetentionRecord}
    (h : StoreWrite s store record) (ranges : s.store.InRange) : store.InRange := by
  obtain ⟨⟨geometryHead, geometryEntries⟩, plans, selection⟩ := (inRange_iff _).1 ranges
  cases h with
  | planHead p head _ hr => exact ranges.putPlan p ⟨hr, (plans p).2⟩
  | planGroup p g four hr =>
    exact ranges.putPlan p ⟨(plans p).1, forall_replaceGroup g.val (plans p).2 hr⟩
  | planErase p _ => exact ranges.putPlan p planRecord_erased_inRange
  | planCheck p state stamp fault => exact ranges.putPlan p (plans p)
  | geometryHead head hr => exact ranges.putGeometry ⟨hr, geometryEntries⟩
  | geometryGroup g four hr =>
    exact ranges.putGeometry ⟨geometryHead, forall_replaceGroup g.val geometryEntries hr⟩
  | geometryCheck state fault stamp => exact ranges.putGeometry ⟨geometryHead, geometryEntries⟩
  | selection i entry hr => exact ranges.putSelection i hr
  | unchanged => exact ranges

theorem keepRecord_inRange {st : Store} {r : Retained} (record : RetentionRecord) (hst : st.InRange)
    (hr : r.contents.InRange) : (keepRecord st r record).contents.InRange := by
  obtain ⟨⟨workHead, workEntries⟩, workPlans, workSelection⟩ := (inRange_iff _).1 hst
  obtain ⟨⟨keptHead, keptEntries⟩, keptPlans, keptSelection⟩ := (inRange_iff _).1 hr
  simp only [contents_plans] at keptPlans
  cases record with
  | geometryHead => exact hr.putGeometry (g := keepGeometryHead _ _) ⟨workHead, keptEntries⟩
  | geometryGroup g =>
    exact hr.putGeometry (g := keepGeometryGroup _ _ g)
      ⟨keptHead, forall_blankGroup g.val keptEntries workEntries⟩
  | planHead p =>
    simp only [keepRecord, contents_setPlan]
    exact hr.putPlan p ⟨(workPlans p).1, (keptPlans p).2⟩
  | planGroup p g =>
    simp only [keepRecord, contents_setPlan]
    exact hr.putPlan p
      ⟨(keptPlans p).1, forall_blankGroup g.val (keptPlans p).2 (workPlans p).2⟩
  | planState p erase =>
    cases erase <;> simp only [keepRecord, contents_setPlan]
    · exact hr.putPlan p (keptPlans p)
    · exact hr.putPlan p (workPlans p)
  | selectionEntry i => exact hr.putSelection i (workSelection i)

/-! ### Resets (R23, R24) -/

/-- A torn write leaves the cells as they are, but for the head and the groups of a torn erase. -/
theorem tearRecord_inRange {r : Retained} (record : RetentionRecord) (h : r.contents.InRange) :
    (tearRecord r record).contents.InRange := by
  have plans := ((inRange_iff _).1 h).2.1
  simp only [contents_plans] at plans
  cases record with
  | geometryHead => exact h
  | geometryGroup g => exact h
  | planHead p =>
    simp only [tearRecord, contents_setPlan]
    exact h.putPlan p (plans p)
  | planGroup p g =>
    simp only [tearRecord, contents_setPlan]
    exact h.putPlan p (plans p)
  | planState p erase =>
    cases erase <;> simp only [tearRecord, contents_setPlan]
    · exact h.putPlan p (plans p)
    · exact h.putPlan p ⟨planHead_erased_inRange, erasedEntries_inRange⟩
  | selectionEntry i => exact h

theorem atReset_inRange {k : RetainedPlan} (h : k.record.InRange) : k.atReset.record.InRange := by
  unfold RetainedPlan.atReset
  split
  · exact ⟨planHead_erased_inRange, erasedEntries_inRange⟩
  · exact h

/-- A reset gives the plans that stand torn by an erase their erase values again. -/
theorem atResets_inRange {r : Retained} (h : r.contents.InRange) :
    ({ r with plans := Vector.ofFn fun p => r.plans[p].atReset } : Retained).contents.InRange := by
  rw [inRange_iff] at h ⊢
  simp only [contents_plans, contents_geometry_eq, contents_selection_eq] at h ⊢
  obtain ⟨geometry, plans, selection⟩ := h
  exact ⟨geometry, fun p => by simpa using atReset_inRange (plans p), selection⟩

theorem tearWrite_inRange {r : Retained} (writing : Option RetentionRecord)
    (h : r.contents.InRange) : (tearWrite r writing).contents.InRange := by
  cases writing with
  | none => exact atResets_inRange h
  | some record => exact atResets_inRange (tearRecord_inRange record h)

theorem loadPlan_inRange {k : RetainedPlan} (h : k.record.InRange) : (loadPlan k).InRange := by
  have head : PlanHeadRanges (if k.headTorn then .erased else k.record.head) := by
    split
    · exact planHead_erased_inRange
    · exact h.1
  have entries := forall_loadEntries k.groupTorn h.2 erasedEntries_inRange
  unfold loadPlan
  dsimp only
  split
  · exact ⟨planHead_erased_inRange, erasedEntries_inRange⟩
  · exact ⟨head, entries⟩
  · split
    · exact ⟨head, entries⟩
    · split
      · exact planRecord_erased_inRange
      · exact h

theorem loadStore_inRange {r : Retained} (h : r.contents.InRange) : (loadStore r).InRange := by
  obtain ⟨⟨head, entries⟩, plans, selection⟩ := (inRange_iff _).1 h
  simp only [contents_plans] at plans
  refine (inRange_iff _).2 ⟨⟨?_, forall_loadEntries r.groupTorn entries blankEntries_inRange⟩,
    fun p => ?_, fun i => ?_⟩
  · simp only [loadStore, loadGeometry]
    split
    · exact geometryHead_blank_inRange
    · exact head
  · simpa [loadStore] using loadPlan_inRange (plans p)
  · have entry := selection i
    simp only [loadStore, Fin.getElem_fin, Vector.getElem_ofFn]
    split
    · exact selectionEntry_blank_inRange
    · exact entry

/-! ### The coherent Timebase (R51, R52, R58) -/

/-- A coherent Timebase stays coherent where it stays but for the number of its last beat, and no plan that
it names in RUN changes its cycle length. -/
theorem TimebaseCoherent.congr {s u : State} (h : TimebaseCoherent s)
    (timebase : u.timebase = { s.timebase with beatSeq := u.timebase.beatSeq })
    (boundary : u.due.boundary = s.due.boundary)
    (cycle : isPlan s.timebase.active = true →
      (u.store.plan s.timebase.active).head.c = (s.store.plan s.timebase.active).head.c) :
    TimebaseCoherent u := by
  unfold TimebaseCoherent at h ⊢
  rw [timebase, boundary]
  cases hm : s.timebase.mode with
  | hold => simpa only [hm] using h
  | entering => simpa only [hm] using h
  | run =>
    simp only [hm] at h ⊢
    rwa [cycle h.1]

/-- A write leaves the cycle length of a plan in use (R12). -/
theorem StoreWrite.cycleLength {s : State} {store : Store} {record : Option RetentionRecord}
    (h : StoreWrite s store record) {n : Nat} (plan : isPlan n = true) (used : PlanInUse s n) :
    (store.plan n).head.c = (s.store.plan n).head.c := by
  obtain ⟨q, rfl⟩ := exists_plan plan
  have replaced : ∀ (p : Fin 24) (r : PlanRecord),
      (p = q → r.head.c = s.store.plans[q].head.c) →
      ((s.store.putPlan p r).plan (q.val + 1)).head.c = (s.store.plan (q.val + 1)).head.c := by
    intro p r hr
    rw [Store.plan_succ, Store.plan_succ, Store.putPlan_plans]
    split
    · next same => exact hr same
    · rfl
  cases h with
  | planHead p _ free _ => exact replaced p _ fun same => absurd used (same ▸ free)
  | planGroup p _ _ _ => exact replaced p _ fun same => by rw [same]
  | planErase p free => exact replaced p _ fun same => absurd used (same ▸ free)
  | planCheck p _ _ _ => exact replaced p _ fun same => by rw [same]
  | geometryHead _ _ => rfl
  | geometryGroup _ _ _ => rfl
  | geometryCheck _ _ _ => rfl
  | selection _ _ _ => rfl
  | unchanged => rfl

theorem StoreWritten.timebaseSafe {s u : State} (h : StoreWritten s u) (safe : TimebaseSafe s) :
    TimebaseSafe u := by
  obtain ⟨ranges, coherent⟩ := safe
  rw [storedInRange_iff] at ranges
  refine ⟨(storedInRange_iff u).2 ⟨h.write.inRange ranges.1, by rw [h.retained]; exact ranges.2⟩, ?_⟩
  exact coherent.congr (by rw [h.timebase]) h.boundary fun plan =>
    h.write.cycleLength plan (.inl rfl)

/-- The ranges speak of the two copies alone. -/
theorem StoreKept.storedInRange {s u : State} (h : StoreKept s u) (ranges : StoredInRange s) :
    StoredInRange u := by
  rw [storedInRange_iff] at ranges ⊢
  rwa [h.store, h.retained]

/-- The cycle length of a plan is not 0 (R9). -/
theorem cycle_pos {st : Store} (h : st.InRange) {p : Nat} (plan : isPlan p = true) :
    0 < (st.plan p).head.c := by
  obtain ⟨q, rfl⟩ := exists_plan plan
  have range := (((inRange_iff st).1 h).2.1 q).1.1
  rw [Store.plan_succ]
  omega

/-- Every move of the Timebase leads from a coherent state to a coherent one. -/
theorem TimebaseMoved.coherent {s u : State} (h : TimebaseMoved s u) (ranges : s.store.InRange)
    (coherent : TimebaseCoherent s) : TimebaseCoherent u := by
  obtain ⟨⟨store, _, _, _⟩, move⟩ := h
  have pos : ∀ p, isPlan p = true → 0 < (u.store.plan p).head.c := fun p => by
    rw [store]
    exact cycle_pos ranges
  rw [← store] at ranges
  unfold TimebaseCoherent at coherent ⊢
  generalize u.timebase = t at move ⊢
  generalize u.due.boundary = b at move ⊢
  cases move with
  | enter p plan held =>
    simp only [held] at coherent
    obtain ⟨cc, c, active, pendingPlan, _, divider, boundary⟩ := coherent
    exact ⟨cc, c, active, pendingPlan, plan, divider, boundary⟩
  | hold seq => exact ⟨rfl, rfl, rfl, rfl, rfl, rfl, rfl⟩
  | pending p running plan =>
    simp only [running] at coherent ⊢
    obtain ⟨active, entry, c, cc, _, divider, boundary⟩ := coherent
    refine ⟨active, entry, by rw [c, store], cc, fun nonzero => plan.resolve_left nonzero, divider,
      boundary⟩
  | start p seq entering plan =>
    simp only [entering] at coherent
    obtain ⟨_, _, _, pendingPlan, entry, _, boundary⟩ := coherent
    refine ⟨entry, rfl, by rw [store], by simpa [store] using pos _ entry, fun nonzero => ?_,
      ⟨0, rfl, by omega⟩, fun _ => rfl⟩
    exact plan.resolve_left fun same => nonzero (same.trans pendingPlan)
  | switch due plan =>
    cases hm : s.timebase.mode with
    | hold => simp_all
    | entering => simp_all
    | run =>
      simp only [hm] at coherent ⊢
      obtain ⟨_, entry, _, _, pendingPlan, divider, boundary⟩ := coherent
      obtain ⟨isPlan, _⟩ := pendingPlan plan
      refine ⟨isPlan, entry, by rw [store], ?_, fun nonzero => absurd rfl nonzero, divider,
        fun due' => by cases due'⟩
      rw [boundary due, ← store]
      exact pos _ isPlan
  | passed =>
    cases hm : s.timebase.mode with
    | hold => simp_all
    | entering => simp_all
    | run =>
      simp only [hm] at coherent ⊢
      obtain ⟨active, entry, c, cc, pendingPlan, divider, _⟩ := coherent
      exact ⟨active, entry, by rw [c, store], cc, pendingPlan, divider, fun due => by cases due⟩
  | tick running =>
    simp only [running] at coherent ⊢
    obtain ⟨active, entry, c, cc, pendingPlan, ⟨d, divider, small⟩, _⟩ := coherent
    refine ⟨active, entry, by rw [c, store], ?_, pendingPlan, ⟨tickDivider d, by rw [divider]; rfl, ?_⟩,
      fun due => ?_⟩
    · split <;> omega
    · unfold tickDivider
      split <;> omega
    · rw [if_pos (of_decide_eq_true due)]

theorem Moved.timebaseSafe {s u : State} (h : Moved s u) (safe : TimebaseSafe s) :
    TimebaseSafe u := by
  obtain ⟨ranges, coherent⟩ := safe
  rcases h with h | h
  · exact ⟨h.toStoreKept.storedInRange ranges,
      coherent.congr h.timebase h.boundary fun _ => by rw [h.store]⟩
  · exact ⟨h.toStoreKept.storedInRange ranges,
      h.coherent ((storedInRange_iff s).1 ranges).1 coherent⟩

theorem completeRetention_timebaseSafe {s : State} (safe : TimebaseSafe s) :
    TimebaseSafe (completeRetention s) := by
  obtain ⟨ranges, coherent⟩ := safe
  unfold completeRetention
  split
  · exact ⟨ranges, coherent⟩
  · next record _ =>
    rw [storedInRange_iff] at ranges
    exact ⟨(storedInRange_iff _).2 ⟨ranges.1, keepRecord_inRange record ranges.1 ranges.2⟩, coherent⟩

/-- A restarted unit stands in HOLD over what retained memory loads. -/
theorem restart_timebaseSafe {s : State} (ranges : StoredInRange s) : TimebaseSafe (restart s) := by
  rw [storedInRange_iff] at ranges
  have kept := tearWrite_inRange s.retention ranges.2
  exact ⟨(storedInRange_iff _).2 ⟨loadStore_inRange kept, kept⟩, rfl, rfl, rfl, rfl, rfl, rfl, rfl⟩

/-- The start decision leaves the unit in HOLD, or enters a plan (R171). -/
theorem startDecision_moved {s : State} (held : s.timebase.mode = .hold) :
    Moved s (startDecision s) := by
  unfold startDecision
  dsimp only
  split
  · next h =>
    refine Moved.settle (.inr ⟨by simp [storeKept_iff], ?_⟩)
    simpa [enterEntering_timebase] using TimebaseMove.enter _ h.2.2.1 held
  · exact .inl (.refl s)

/-- Settles O36, by the cases of what a completed command has done. -/
theorem timebaseSafeKept : Obligations.TimebaseSafeKept := by
  intro c s u h safe
  cases exec_did h with
  | moved h => exact h.timebaseSafe safe
  | wrote _ h => exact h.timebaseSafe safe
  | retained _ h => exact h ▸ completeRetention_timebaseSafe safe
  | asserted _ h =>
    obtain ⟨ranges, coherent⟩ := safe
    rw [storedInRange_iff] at ranges
    subst h
    exact ⟨(storedInRange_iff _).2 ⟨ranges.1, tearWrite_inRange s.retention ranges.2⟩, coherent⟩
  | restarted pins _ h =>
    have restarted : TimebaseSafe (restart (s.setStraps pins)) := restart_timebaseSafe safe.1
    exact h ▸ (startDecision_moved rfl).timebaseSafe restarted

end Sys2Proof.Machine
end

section
/-! The requests of the Plan Store: reads, refusals and effects (chapter 1). -/

namespace Sys2Proof.Machine

open Sys2Proof

/-! ### Reads (R2) -/

/-- Settles O8: each read is answered from the store, which the taking of a frame leaves. -/
theorem storeReadsAnswered : Obligations.StoreReadsAnswered := by
  intro s t rest
  refine ⟨fun b h => ?_, fun b h => ?_, fun page h => ?_, fun b h => ?_, fun b h => ?_⟩
  · exact h.planHeadRead.readServed rest rfl
      (fun inRange => by
        simp [answerPlanHeadRead, (isPlan_iff _).2 inRange, planHeadResult, ready, inUse])
      (fun out => by simp [answerPlanHeadRead, mt (isPlan_iff _).1 out])
  · exact h.planGroupRead.readServed rest rfl
      (fun ⟨low, high, group⟩ => by
        simp [answerPlanGroupRead, (isPlan_iff _).2 ⟨low, high⟩, group, planGroupResult])
      (fun out => by
        have refused : ¬(isPlan b.plan = true ∧ b.group ≤ 2) := by
          rwa [isPlan_iff, PlanNumber, and_assoc]
        simp [answerPlanGroupRead, refused])
  · exact h.geometryHeadRead.readServed rest rfl
      (fun _ => by simp [answerGeometryHeadRead, geometryHeadResult]) (fun out => absurd trivial out)
  · exact h.geometryGroupRead.readServed rest rfl
      (fun inRange => by simp [answerGeometryGroupRead, inRange, geometryGroupResult])
      (fun out => by simp [answerGeometryGroupRead, out])
  · exact h.selectionRead.readServed rest rfl
      (fun inRange => by simp [answerSelectionRead, inRange, selectionResult])
      (fun out => by simp [answerSelectionRead, out])

/-! ### Writes and the erase of a plan (R10, R11, R13) -/

/-- The number of a plan, by its index. -/
theorem planNumber_succ (p : Fin 24) : PlanNumber (p.val + 1) := ⟨by omega, by omega⟩

/-- Settles O10: the refusals in their order, then the effect. -/
theorem planRecordsWritten : Obligations.PlanRecordsWritten := by
  refine ⟨fun s t b rest h => ?_, fun s t b rest h => ?_, fun s t n rest h => ?_⟩
  · refine ⟨fun out => h.planHeadWrite.refused rfl (code := .badArgument) ?_ (by simp),
      fun p hp ranges => ?_⟩
    · simp [answerPlanHeadWrite_code, out]
    · have plan : PlanNumber b.plan := hp ▸ planNumber_succ p
      refine ⟨fun used => h.planHeadWrite.refused rfl (code := .inUse) ?_ (by simp),
        fun free writing => h.planHeadWrite.refused rfl (code := .busy) ?_ (by simp),
        fun free idle => h.planHeadWrite.storeChanged rest rfl ?_ rfl ?_⟩
      · simp [answerPlanHeadWrite_code, plan, ranges, used]
      · simp [answerPlanHeadWrite_code, plan, ranges, free, writing]
      · simp [answerPlanHeadWrite_code, plan, ranges, free, idle]
      · rw [effectPlanHeadWrite_eq t _ hp, answered_store]
  · refine ⟨fun out => h.planGroupWrite.refused rfl (code := .badArgument) ?_ (by simp),
      fun p g hp hg ranges => ?_⟩
    · rw [answerPlanGroupWrite_code, if_pos out]
    · have plan : PlanNumber b.plan ∧ b.group ≤ 2 ∧ ∀ k : Fin 4, PlanEntryRanges b.entries[k] :=
        ⟨hp ▸ planNumber_succ p, by omega, ranges⟩
      refine ⟨fun used => h.planGroupWrite.refused rfl (code := .inUse) ?_ (by simp),
        fun free writing => h.planGroupWrite.refused rfl (code := .busy) ?_ (by simp),
        fun free idle => ⟨_, replaceGroup_groupReplaced _ _ _,
          h.planGroupWrite.storeChanged rest rfl ?_ rfl ?_⟩⟩
      · rw [answerPlanGroupWrite_code, if_neg (not_not_intro plan)]; simp [used]
      · rw [answerPlanGroupWrite_code, if_neg (not_not_intro plan)]; simp [free, writing]
      · rw [answerPlanGroupWrite_code, if_neg (not_not_intro plan)]; simp [free, idle]
      · rw [effectPlanGroupWrite_eq t _ hp hg, answered_store]
  · refine ⟨fun out => h.planErase.refused rfl (code := .badArgument) ?_ (by simp), fun p hp => ?_⟩
    · simp [answerErase_code, out]
    · have plan : PlanNumber n := hp ▸ planNumber_succ p
      refine ⟨fun used => h.planErase.refused rfl (code := .inUse) ?_ (by simp),
        fun free writing => h.planErase.refused rfl (code := .busy) ?_ (by simp),
        fun free idle => h.planErase.storeChanged rest rfl ?_ rfl ?_⟩
      · simp [answerErase_code, plan, used]
      · simp [answerErase_code, plan, free, writing]
      · simp [answerErase_code, plan, free, idle]
      · rw [hp, effectErase_eq, answered_store]
        rfl

/-! ### The geometry and the selection table (R4, R5, R18) -/

/-- The effects of a change of N, where N stays. -/
theorem changeN_same {s : State} {n : Nat} (h : n = junctionCount s) : changeN n s = s := by
  simp [changeN, h]

/-- Settles O13: the refusals in their order, then the effect. -/
theorem geometryRecordsWritten : Obligations.GeometryRecordsWritten := by
  refine ⟨fun s t head rest h => ?_, fun s t b rest h => ?_⟩
  · refine ⟨fun other => h.geometryHeadWrite.refused rfl (code := .wrongMode) ?_ (by simp),
      fun held out => h.geometryHeadWrite.refused rfl (code := .badArgument) ?_ (by simp),
      fun held ranges writing => h.geometryHeadWrite.refused rfl (code := .busy) ?_ (by simp),
      fun held ranges idle same => h.geometryHeadWrite.storeChanged rest rfl ?_ rfl ?_⟩
    · simp [answerGeometryHeadWrite_code, other]
    · simp [answerGeometryHeadWrite_code, held, out]
    · simp [answerGeometryHeadWrite_code, held, ranges, writing]
    · simp [answerGeometryHeadWrite_code, held, ranges, idle]
    · rw [effectGeometryHeadWrite_eq, answered_store]
      exact changeN_same (by simp [junctionCount, same])
  · refine ⟨fun other => h.geometryGroupWrite.refused rfl (code := .wrongMode) ?_ (by simp),
      fun held out => h.geometryGroupWrite.refused rfl (code := .badArgument) ?_ (by simp),
      fun g hg held ranges => ?_⟩
    · simp [answerGeometryGroupWrite_code, other]
    · rw [answerGeometryGroupWrite_code, if_pos out]; simp [held]
    · have fits : b.group ≤ 2 ∧ ∀ k : Fin 4, GeometryEntryRanges b.entries[k] := ⟨by omega, ranges⟩
      refine ⟨fun writing => h.geometryGroupWrite.refused rfl (code := .busy) ?_ (by simp),
        fun idle => ⟨_, replaceGroup_groupReplaced _ _ _,
          h.geometryGroupWrite.storeChanged rest rfl ?_ rfl ?_⟩⟩
      · rw [answerGeometryGroupWrite_code, if_neg (not_not_intro fits)]; simp [held, writing]
      · rw [answerGeometryGroupWrite_code, if_neg (not_not_intro fits)]; simp [held, idle]
      · rw [effectGeometryGroupWrite_eq t _ hg, answered_store]

/-- Settles O16: the refusals in their order, then the effect. -/
theorem selectionWritten : Obligations.SelectionWritten := by
  intro s t b rest h
  refine ⟨fun out => h.selectionWrite.refused rfl (code := .badArgument) ?_ (by simp),
    fun i hi ranges => ?_⟩
  · rw [answerSelectionWrite_code, if_pos out]
  · have fits : b.index ≤ 15 ∧ SelectionEntryRanges b.entry := ⟨by omega, ranges⟩
    refine ⟨fun writing => h.selectionWrite.refused rfl (code := .busy) ?_ (by simp),
      fun idle => h.selectionWrite.storeChanged rest rfl ?_ rfl ?_⟩
    · simp [answerSelectionWrite_code, fits, writing]
    · simp [answerSelectionWrite_code, fits, idle]
    · rw [effectSelectionWrite_eq t _ hi, answered_store]

end Sys2Proof.Machine
end

section
/-! The two checks: the first condition of R7 and of R15 that fails is the result. -/

namespace Sys2Proof.Machine

open Sys2Proof

/-! ### CHECK_PLAN (R15) -/

theorem sideTimeFails_iff (r : PlanRecord) (j : Nat) :
    sideTimeFails r j = true ↔ SideTimeShort r j := by
  have windowed : classOf (r.shareOf j) = .windowed ↔ r.shareOf j ≠ 0 ∧ r.shareOf j ≠ 1000 := by
    unfold classOf
    split_ifs with h0 h1000 <;> simp [*]
  rw [sideTimeFails, Bool.and_eq_true, decide_eq_true_iff, decide_eq_true_iff, windowed, and_assoc]
  rfl

/-- Fewer than two junctions have a share above 0 exactly when no two have. -/
theorem bandJunctions_short (r : PlanRecord) (n : Nat) :
    (bandJunctions r n).length < 2 ↔
      ¬ ∃ i j, i < j ∧ j < n ∧ 0 < r.shareOf i ∧ 0 < r.shareOf j := by
  have mem : ∀ j, j ∈ bandJunctions r n ↔ j < n ∧ 0 < r.shareOf j := by simp [bandJunctions]
  have sorted : (bandJunctions r n).Pairwise (· < ·) := List.pairwise_lt_range.filter _
  rw [← not_iff_not, not_not, not_lt]
  constructor
  · intro two
    rcases hl : bandJunctions r n with _ | ⟨i, _ | ⟨j, rest⟩⟩
    · simp [hl] at two
    · simp [hl] at two
    · rw [hl] at sorted mem
      have less : i < j := List.rel_of_pairwise_cons sorted List.mem_cons_self
      have hi := (mem i).1 List.mem_cons_self
      have hj := (mem j).1 (List.mem_cons_of_mem _ List.mem_cons_self)
      exact ⟨i, j, less, hj.1, hi.2, hj.2⟩
  · rintro ⟨i, j, less, hj, si, sj⟩
    have mi := (mem i).2 ⟨by omega, si⟩
    have mj := (mem j).2 ⟨hj, sj⟩
    rcases hl : bandJunctions r n with _ | ⟨x, _ | ⟨y, rest⟩⟩
    · simp [hl] at mi
    · simp only [hl, List.mem_singleton] at mi mj
      omega
    · simp

/-- The result of the last two conditions, where the first five hold. -/
theorem planFault_late {g : Geometry} {r : PlanRecord} (h1 : g.state = .valid)
    (h2 : ¬ r.head.c ≤ r.head.p) (h3 : ¬ g.head.n ≤ r.head.anchor)
    (h4 : r.head.biasMin ≤ r.head.biasNominal ∧ r.head.biasNominal ≤ r.head.biasMax)
    (h5 : ¬ r.head.c < r.head.gMin + r.head.sMin) : PlanVerdict g r (planFault g r) := by
  have early : ∀ f' : PlanFault, f'.order < 6 → ¬ PlanFails g r f' := by
    intro f'
    cases f' <;> simp [PlanFault.order, PlanFails, h1, h2, h3, h4, h5]
  rw [planFault, if_neg (not_not_intro h1), if_neg h2, if_neg h3, if_neg (not_not_intro h4), if_neg h5]
  split
  · next j found =>
    obtain ⟨hj, hmem, hbefore⟩ := List.find?_range_eq_some.1 found
    rw [List.mem_range] at hmem
    refine ⟨.inr ⟨hmem, (sideTimeFails_iff r j).1 hj, fun i hi short => ?_⟩, early⟩
    simpa [(sideTimeFails_iff r i).2 short] using hbefore i hi
  · next found =>
    have noSide : ∀ j, ¬ PlanFails g r (.sideTime j) := by
      rintro j ⟨hj, short, _⟩
      have := List.find?_eq_none.1 found j (List.mem_range.2 hj)
      exact this ((sideTimeFails_iff r j).2 short)
    split
    · next few =>
      refine ⟨.inr ((bandJunctions_short r g.head.n).1 few), fun f' lower => ?_⟩
      by_cases h6 : f'.order < 6
      · exact early f' h6
      · cases f' <;> simp [PlanFault.order] at lower h6
        exact noSide _
    · next many =>
      refine ⟨.inl rfl, fun f' lower => ?_⟩
      by_cases h6 : f'.order < 6
      · exact early f' h6
      · cases f' <;> simp [PlanFault.order] at lower h6
        · exact noSide _
        · exact mt (bandJunctions_short r g.head.n).2 many

/-- The plan check answers the first condition that fails (R15). -/
theorem planFault_verdict (g : Geometry) (r : PlanRecord) : PlanVerdict g r (planFault g r) := by
  by_cases h1 : g.state ≠ .valid
  · rw [planFault, if_pos h1]
    exact ⟨.inr h1, fun f' => by cases f' <;> simp [PlanFault.order]⟩
  rw [not_not] at h1
  by_cases h2 : r.head.c ≤ r.head.p
  · rw [planFault, if_neg (not_not_intro h1), if_pos h2]
    exact ⟨.inr h2, fun f' => by cases f' <;> simp [PlanFault.order, PlanFails, h1]⟩
  by_cases h3 : g.head.n ≤ r.head.anchor
  · rw [planFault, if_neg (not_not_intro h1), if_neg h2, if_pos h3]
    exact ⟨.inr h3, fun f' => by cases f' <;> simp [PlanFault.order, PlanFails, h1, h2]⟩
  by_cases h4 : r.head.biasMin ≤ r.head.biasNominal ∧ r.head.biasNominal ≤ r.head.biasMax
  · by_cases h5 : r.head.c < r.head.gMin + r.head.sMin
    · rw [planFault, if_neg (not_not_intro h1), if_neg h2, if_neg h3, if_neg (not_not_intro h4),
        if_pos h5]
      exact ⟨.inr h5, fun f' => by cases f' <;> simp [PlanFault.order, PlanFails, h1, h2, h3, h4]⟩
    · exact planFault_late h1 h2 h3 h4 h5
  · rw [planFault, if_neg (not_not_intro h1), if_neg h2, if_neg h3, if_pos h4]
    exact ⟨.inr h4, fun f' => by cases f' <;> simp [PlanFault.order, PlanFails, h1, h2, h3]⟩

/-- Settles O11: the refusals in their order, then the check. -/
theorem planChecked : Obligations.PlanChecked := by
  intro s t n rest h
  refine ⟨fun out => h.planCheck.refused rfl (code := .badArgument) ?_ (by simp), fun p hp => ?_⟩
  · simp [answerPlanCheck_code, out]
  subst hp
  have plan := planNumber_succ p
  refine ⟨fun empty => h.planCheck.refused rfl (code := .notReady) ?_ (by simp),
    fun full writing => h.planCheck.refused rfl (code := .busy) ?_ (by simp),
    fun full idle => ⟨planFault s.store.geometry s.store.plans[p],
      checkedPlan s.store.geometry s.store.plans[p], planFault_verdict _ _, fun pass => ?_,
      fun fails => ?_, h.planCheck.storeChanged rest rfl ?_ ?_ ?_⟩⟩
  · rw [answerPlanCheck_code, if_neg (not_not_intro plan)]; simp_all
  · rw [answerPlanCheck_code, if_neg (not_not_intro plan)]; simp_all
  · rw [checkedPlan, pass]
  · unfold checkedPlan
    split
    · next pass => exact absurd pass fails
    · rfl
  · rw [answerPlanCheck_code, if_neg (not_not_intro plan)]; simp_all
  · simp [answerPlanCheck, checkPlanResult]
  · rw [effectPlanCheck_eq, answered_store, answered_retention, idle]

/-! ### CHECK_GEOMETRY (R7) -/

theorem mem_allJunctions (j : Junction) : j ∈ allJunctions := by
  revert j
  decide

theorem addressClash_iff (g : Geometry) :
    addressClash g = true ↔ GeometryFails g .addressClash := by
  simp [addressClash, GeometryFails, mem_allJunctions, and_assoc]

theorem Geometry.position_val (g : Geometry) (j : Junction) :
    g.position j.val = g.entries[j].position := by
  simp [Geometry.position, nth]

/-- A test of every link of junctions 0..N-1, in terms of its two junctions. -/
theorem any_link_iff {g : Geometry} (h : g.head.n ≤ 12) (P : Nat → Nat → Prop)
    [∀ a b, Decidable (P a b)] :
    ((List.range (g.head.n - 1)).any fun k => decide (P (g.position k) (g.position (k + 1)))) = true ↔
      ∃ i j : Junction, j.val = i.val + 1 ∧ j.val < g.head.n ∧
        P g.entries[i].position g.entries[j].position := by
  simp only [List.any_eq_true, List.mem_range, decide_eq_true_eq]
  constructor
  · rintro ⟨k, hk, fails⟩
    refine ⟨⟨k, by omega⟩, ⟨k + 1, by omega⟩, rfl, by simp; omega, ?_⟩
    rwa [← g.position_val ⟨k, _⟩, ← g.position_val ⟨k + 1, _⟩]
  · rintro ⟨i, j, next, hj, fails⟩
    refine ⟨i.val, by omega, ?_⟩
    rw [← next, g.position_val, g.position_val]
    exact fails

theorem positionDisorder_iff {g : Geometry} (h : g.head.n ≤ 12) :
    positionDisorder g = true ↔ GeometryFails g .positionOrder := by
  rw [positionDisorder, Bool.or_eq_true, any_link_iff h fun a b => b ≤ a, decide_eq_true_iff]
  exact or_congr_left (by simp [Geometry.position, nth])

theorem linkShort_iff {g : Geometry} (h : g.head.n ≤ 12) :
    linkShort g = true ↔ GeometryFails g .linkShort :=
  any_link_iff h fun a b => b < a + 50

theorem thresholdsOrdered_iff (g : Geometry) :
    (!thresholdsOrdered g.head) = true ↔ GeometryFails g .thresholdOrder := by
  rw [Bool.not_eq_true', ← Bool.not_eq_true]
  simp only [thresholdsOrdered, GeometryFails, Bool.and_eq_true, decide_eq_true_eq, and_assoc]

/-- The geometry check answers the first condition that fails (R7). -/
theorem geometryFault_verdict {g : Geometry} (h : g.head.n ≤ 12) :
    GeometryVerdict g (geometryFault g) := by
  have c1 := addressClash_iff g
  have c2 := positionDisorder_iff h
  have c3 := linkShort_iff h
  have c4 := thresholdsOrdered_iff g
  by_cases h1 : GeometryFails g .addressClash
  · rw [geometryFault, if_pos (c1.2 h1)]
    exact ⟨.inr h1, fun f' => by cases f' <;> simp [GeometryFault.order]⟩
  by_cases h2 : GeometryFails g .positionOrder
  · rw [geometryFault, if_neg (mt c1.1 h1), if_pos (c2.2 h2)]
    exact ⟨.inr h2, fun f' => by cases f' <;> simp [GeometryFault.order, h1]⟩
  by_cases h3 : GeometryFails g .linkShort
  · rw [geometryFault, if_neg (mt c1.1 h1), if_neg (mt c2.1 h2), if_pos (c3.2 h3)]
    exact ⟨.inr h3, fun f' => by cases f' <;> simp [GeometryFault.order, h1, h2]⟩
  by_cases h4 : GeometryFails g .thresholdOrder
  · rw [geometryFault, if_neg (mt c1.1 h1), if_neg (mt c2.1 h2), if_neg (mt c3.1 h3),
      if_pos (c4.2 h4)]
    exact ⟨.inr h4, fun f' => by cases f' <;> simp [GeometryFault.order, h1, h2, h3]⟩
  · rw [geometryFault, if_neg (mt c1.1 h1), if_neg (mt c2.1 h2), if_neg (mt c3.1 h3),
      if_neg (mt c4.1 h4)]
    exact ⟨.inl rfl, fun f' => by cases f' <;> simp [GeometryFault.order, h1, h2, h3, h4]⟩

/-- Settles O15: the refusals in their order, then the check. -/
theorem geometryChecked : Obligations.GeometryChecked := by
  intro s t rest h count
  refine ⟨fun other => h.geometryCheck.refused rfl (code := .wrongMode) ?_ (by simp),
    fun held writing => h.geometryCheck.refused rfl (code := .busy) ?_ (by simp),
    fun held idle => ⟨geometryFault s.store.geometry, checkedGeometry s.store.geometry,
      geometryFault_verdict count, fun pass valid => ?_, fun pass unchecked => ?_, fun fails => ?_,
      h.geometryCheck.storeChanged rest rfl ?_ ?_ ?_⟩⟩
  · simp [answerGeometryCheck_code, other]
  · simp [answerGeometryCheck_code, held, writing]
  · simp [checkedGeometry, pass, valid]
  · simp [checkedGeometry, pass, unchecked, nextStamp]
  · unfold checkedGeometry
    split
    · next pass => exact absurd pass fails
    · rfl
  · simp [answerGeometryCheck_code, held, idle]
  · simp [answerGeometryCheck, checkGeometryResult]
  · rw [effectGeometryCheck_eq, answered_store, answered_retention, idle]

end Sys2Proof.Machine
end

section
/-! Retention and loading: the completion of a write (R20), what a reset tears and loads (R23, R24). -/

namespace Sys2Proof.Machine

open Sys2Proof

/-! ### The completion of a write (R20) -/

theorem blankGroup_getElem {α : Type} (old blank : Vector α 12) (g : Nat) (j : Fin 12) :
    (blankGroup old g blank)[j] = if j.val / 4 = g then blank[j] else old[j] := by
  simp [blankGroup]

/-- A write in progress completes. -/
theorem exec_retentionComplete {s : State} {r : RetentionRecord} (running : s.inReset = false)
    (writing : s.retention = some r) :
    exec .retentionComplete s =
      .next { s with retained := keepRecord s.store s.retained r, retention := none } := by
  show Host.Outcome.next (whenRunning completeRetention s) = _
  rw [whenRunning_running _ running, completeRetention, writing]
  rfl

/-- Settles O17, record by record. -/
theorem retentionWriteCompletes : Obligations.RetentionWriteCompletes := by
  intro s r running writing
  refine ⟨_, exec_retentionComplete running writing, ?_⟩
  cases r with
  | geometryHead => rfl
  | geometryGroup g => exact ⟨rfl, fun j => blankGroup_getElem _ _ _ j⟩
  | planHead p => rfl
  | planGroup p g => exact ⟨_, fun j => blankGroup_getElem _ _ _ j, rfl⟩
  | planState p erase =>
    cases erase with
    | false => rfl
    | true => rfl
  | selectionEntry i => rfl

/-! ### What a reset tears and loads (R23, R24) -/

theorem anyTorn_true_iff (torn : Vector Bool 3) :
    anyTorn torn = true ↔ ∃ g : Fin 3, torn[g] = true := by
  rw [← not_iff_not, Bool.not_eq_true, anyTorn_iff]
  simp

/-- A hardware reset loads what the torn retained memory holds. -/
theorem exec_hardwareReset_loads (s : State) (pins : Straps) :
    ∃ u, exec (.hardwareReset pins) s = .next u ∧ u.retention = none ∧
      u.retained = tearWrite s.retained s.retention ∧
      u.store = loadStore (tearWrite s.retained s.retention) := by
  have kept := startDecision_storeKept (restart (s.setStraps pins))
  exact ⟨_, rfl, kept.retention, kept.retained, kept.store⟩

theorem loadStore_plans (r : Retained) (p : Fin 24) :
    (loadStore r).plans[p] = loadPlan r.plans[p] := by
  simp [loadStore]

theorem loadStore_selection (r : Retained) (i : Fin 16) :
    (loadStore r).selection[i] =
      if r.selectionTorn[i] = true then SelectionEntry.blank else r.selection[i] := by
  simp [loadStore]

/-- A plan whose state is torn by an erase loads erase values. -/
theorem loadPlan_erase {k : RetainedPlan} (h : k.stateTorn = some .erase) :
    loadPlan k = tornPlan .erased erasedEntries := by
  simp [loadPlan, h]

/-- A plan of which something else is torn loads erase values in the torn cells. -/
theorem loadPlan_torn {k : RetainedPlan} (state : k.stateTorn ≠ some .erase)
    (torn : k.headTorn = true ∨ (∃ g : Fin 3, k.groupTorn[g] = true) ∨ k.stateTorn ≠ none) :
    loadPlan k = tornPlan (if k.headTorn = true then .erased else k.record.head)
      (loadEntries k.record.entries k.groupTorn erasedEntries) := by
  rw [← anyTorn_true_iff] at torn
  unfold loadPlan
  cases hs : k.stateTorn with
  | none =>
    have some_torn : (k.headTorn || anyTorn k.groupTorn) = true := by simpa [hs] using torn
    simp [some_torn]
  | some w =>
    cases w with
    | check => rfl
    | erase => exact absurd hs state

/-- Geometry of which something is torn: UNCHECKED with fault TORN and the stamp it had (R23). -/
theorem loadGeometry_torn {r : Retained}
    (torn : r.headTorn = true ∨ ∃ g : Fin 3, r.groupTorn[g] = true) :
    loadGeometry r =
      { state := .unchecked, fault := .torn, stamp := r.geometry.stamp
        head := if r.headTorn = true then .blank else r.geometry.head
        entries := loadEntries r.geometry.entries r.groupTorn blankEntries } := by
  rw [← anyTorn_true_iff, ← Bool.or_eq_true] at torn
  simp [loadGeometry, torn]

theorem tearWrite_some_plans (r : Retained) (record : RetentionRecord) (p : Fin 24) :
    (tearWrite r (some record)).plans[p] = (tearRecord r record).plans[p].atReset :=
  tearWrite_plans r (some record) p

theorem tearWrite_none_plans (r : Retained) (p : Fin 24) :
    (tearWrite r none).plans[p] = r.plans[p].atReset :=
  tearWrite_plans r none p

/-- The entries that load are the blank one where the group is torn, and as kept elsewhere. -/
theorem blankEntries_getElem (j : Fin 12) :
    blankEntries[j] = { address := j.val + 1, position := 0 } := by
  simp [blankEntries, GeometryEntry.blank]

theorem erasedEntries_getElem (j : Fin 12) : erasedEntries[j] = .erased := by
  simp [erasedEntries]

/-- What stands torn loads so at every reset (R23; log 15). -/
theorem torn_loads_again (s : State) (pins : Straps) (idle : s.retention = none) :
    ∃ u, exec (.hardwareReset pins) s = .next u ∧ u.store = loadStore u.retained ∧
      (∀ p : Fin 24, u.retained.plans[p] = s.retained.plans[p].atReset) ∧
      u.retained.geometry = s.retained.geometry ∧ u.retained.headTorn = s.retained.headTorn ∧
      u.retained.groupTorn = s.retained.groupTorn ∧ u.retained.selection = s.retained.selection ∧
      u.retained.selectionTorn = s.retained.selectionTorn := by
  obtain ⟨u, he, -, hr, hs⟩ := exec_hardwareReset_loads s pins
  rw [idle] at hr hs
  refine ⟨u, he, by rw [hs, hr], fun p => by rw [hr, tearWrite_none_plans], ?_⟩
  simp [hr, tearWrite]

/-- The plans that a torn record does not name stay. -/
theorem tearRecord_plans_other (r : Retained) (record : RetentionRecord) (p : Fin 24)
    (group : ∀ g, record ≠ .planGroup p g) (state : ∀ e, record ≠ .planState p e)
    (head : record ≠ .planHead p) : (tearRecord r record).plans[p] = r.plans[p] := by
  cases record with
  | geometryHead => rfl
  | geometryGroup g => rfl
  | planHead q =>
    rw [tearRecord, Retained.setPlan_plans, if_neg fun same => head (by rw [same])]
  | planGroup q g =>
    rw [tearRecord, Retained.setPlan_plans, if_neg fun same => group g (by rw [same])]
  | planState q e =>
    cases e <;> rw [tearRecord, Retained.setPlan_plans, if_neg fun same => state _ (by rw [same])]
  | selectionEntry i => rfl

/-- The selection entry that a torn record names is torn, and no other. -/
theorem tearRecord_selection (r : Retained) (record : RetentionRecord) (i : Fin 16) :
    (tearRecord r record).selection = r.selection ∧
    (tearRecord r record).selectionTorn[i] =
      if record = .selectionEntry i then true else r.selectionTorn[i] := by
  cases record with
  | geometryHead => simp [tearRecord]
  | geometryGroup g => simp [tearRecord]
  | planHead q => simp [tearRecord, Retained.setPlan]
  | planGroup q g => simp [tearRecord, Retained.setPlan]
  | planState q e => cases e <;> simp [tearRecord, Retained.setPlan]
  | selectionEntry k => simp [tearRecord, Vector.getElem_set, Fin.ext_iff]

/-- The geometry that loads is read off the geometry cells and what is torn of them. -/
theorem loadGeometry_congr {a b : Retained} (geometry : a.geometry = b.geometry)
    (head : a.headTorn = b.headTorn) (groups : a.groupTorn = b.groupTorn) :
    loadGeometry a = loadGeometry b := by
  unfold loadGeometry
  rw [geometry, head, groups]

/-- The geometry that loads after a torn write of another record. -/
theorem tearRecord_geometry_other (r : Retained) (record : RetentionRecord)
    (head : record ≠ .geometryHead) (group : ∀ g, record ≠ .geometryGroup g) :
    loadGeometry (tearRecord r record) = loadGeometry r := by
  cases record with
  | geometryHead => exact absurd rfl head
  | geometryGroup g => exact absurd rfl (group g)
  | planHead q => exact loadGeometry_congr rfl rfl rfl
  | planGroup q g => exact loadGeometry_congr rfl rfl rfl
  | planState q e => cases e <;> exact loadGeometry_congr rfl rfl rfl
  | selectionEntry i => exact loadGeometry_congr rfl rfl rfl

theorem loadStore_tearWrite_geometry (r : Retained) (record : RetentionRecord) :
    (loadStore (tearWrite r (some record))).geometry = loadGeometry (tearRecord r record) :=
  loadGeometry_congr (by simp [tearWrite]) (by simp [tearWrite]) (by simp [tearWrite])

/-- The selection entry that a torn record names loads blank, the others what was retained. -/
theorem loadStore_tearWrite_selection (r : Retained) (record : RetentionRecord) (i : Fin 16) :
    (loadStore (tearWrite r (some record))).selection[i] =
      if (if record = .selectionEntry i then true else r.selectionTorn[i]) = true then .blank
      else r.selection[i] := by
  obtain ⟨same, torn⟩ := tearRecord_selection r record i
  have kept : (tearWrite r (some record)).selection = (tearRecord r record).selection ∧
      (tearWrite r (some record)).selectionTorn = (tearRecord r record).selectionTorn := by
    simp [tearWrite]
  rw [loadStore_selection, kept.1, kept.2, same, torn]

/-- The entries that load where one group alone is torn. -/
theorem loadEntries_set {α : Type} (kept blank : Vector α 12) {torn : Vector Bool 3}
    (whole : ∀ g : Fin 3, torn[g] = false) (g : Fin 3) (j : Fin 12) :
    (loadEntries kept (torn.set g.val true g.isLt) blank)[j] =
      if j.val / 4 = g.val then blank[j] else kept[j] := by
  have lt : j.val / 4 < 3 := by omega
  have other := whole ⟨j.val / 4, lt⟩
  simp only [Fin.getElem_fin] at other
  rw [loadEntries_getElem]
  simp [Vector.getElem_set, Fin.ofNat, Nat.mod_eq_of_lt lt, other, eq_comm]

theorem tearRecord_planHead (r : Retained) (p : Fin 24) :
    (tearRecord r (.planHead p)).plans[p] = { r.plans[p] with headTorn := true } := by
  rw [tearRecord, Retained.setPlan_plans, if_pos rfl]

theorem tearRecord_planGroup (r : Retained) (p : Fin 24) (g : Fin 3) :
    (tearRecord r (.planGroup p g)).plans[p] =
      { r.plans[p] with groupTorn := r.plans[p].groupTorn.set g.val true g.isLt } := by
  rw [tearRecord, Retained.setPlan_plans, if_pos rfl]

theorem tearRecord_planCheck (r : Retained) (p : Fin 24) :
    (tearRecord r (.planState p false)).plans[p] = { r.plans[p] with stateTorn := some .check } := by
  rw [tearRecord, Retained.setPlan_plans, if_pos rfl]

theorem tearRecord_planErase (r : Retained) (p : Fin 24) :
    (tearRecord r (.planState p true)).plans[p] = r.plans[p].tearErase := by
  rw [tearRecord, Retained.setPlan_plans, if_pos rfl]

/-- A flag raised among flags is raised. -/
theorem set_true (torn : Vector Bool 3) (g : Fin 3) :
    ∃ i : Fin 3, (torn.set g.val true g.isLt)[i] = true := ⟨g, by simp⟩

/-- What is torn loads the same at every further reset. -/
theorem torn_stays (s : State) (pins : Straps) (idle : s.retention = none) :
    ∃ u, exec (.hardwareReset pins) s = .next u ∧
      (s.retained.headTorn = true ∨ (∃ g : Fin 3, s.retained.groupTorn[g] = true) →
        u.store.geometry.state = .unchecked ∧ u.store.geometry.fault = .torn ∧
        u.store.geometry.stamp = s.retained.geometry.stamp) ∧
      (s.retained.headTorn = true → u.store.geometry.head = .blank) ∧
      (∀ j : Fin 12, s.retained.groupTorn[Fin.ofNat 3 (j.val / 4)] = true →
        u.store.geometry.entries[j] = { address := j.val + 1, position := 0 }) ∧
      (∀ i : Fin 16, u.store.selection[i] =
        if s.retained.selectionTorn[i] = true then .blank else s.retained.selection[i]) ∧
      (∀ p : Fin 24,
        u.store.plans[p] = loadPlan s.retained.plans[p].atReset ∧
        u.retained.plans[p] = s.retained.plans[p].atReset) := by
  obtain ⟨u, he, hs, plans, geometry, head, groups, selection, selectionTorn⟩ :=
    torn_loads_again s pins idle
  have loaded : u.store.geometry = loadGeometry u.retained := by rw [hs]; rfl
  rw [← geometry, ← head, ← groups, ← selection, ← selectionTorn]
  refine ⟨u, he, fun torn => ?_, fun torn => ?_, fun j torn => ?_, fun i => ?_, fun p => ⟨?_, plans p⟩⟩
  · rw [loaded, loadGeometry_torn torn]
    exact ⟨rfl, rfl, rfl⟩
  · rw [loaded, loadGeometry_torn (.inl torn), torn]
    rfl
  · rw [loaded, loadGeometry_torn (.inr ⟨_, torn⟩), loadEntries_getElem, if_pos torn,
      blankEntries_getElem]
  · rw [hs, loadStore_selection]
  · rw [hs, loadStore_plans, plans]

/-- A plan of which nothing is torn, as it loads after a reset. -/
theorem loadPlan_atReset_whole {k : RetainedPlan} (head : k.headTorn = false)
    (groups : ∀ g : Fin 3, k.groupTorn[g] = false) (state : k.stateTorn = none) :
    loadPlan k.atReset = if k.eraseMark = true then .erased else k.record := by
  rw [RetainedPlan.atReset_kept (by simp [state]), loadPlan_whole head groups state]

/-- A plan of which something is torn, as it loads after a reset (R23). -/
theorem loadPlan_atReset_torn (k : RetainedPlan) :
    (k.headTorn = true ∨ (∃ g : Fin 3, k.groupTorn[g] = true) ∨ k.stateTorn ≠ none →
      (loadPlan k.atReset).state = .unchecked ∧ (loadPlan k.atReset).stamp = 0 ∧
      (loadPlan k.atReset).fault = .torn) ∧
    (k.headTorn = true ∨ k.stateTorn = some .erase → (loadPlan k.atReset).head = .erased) ∧
    (∀ j : Fin 12, k.groupTorn[Fin.ofNat 3 (j.val / 4)] = true ∨ k.stateTorn = some .erase →
      (loadPlan k.atReset).entries[j] = .erased) := by
  by_cases erase : k.stateTorn = some .erase
  · have again : k.atReset.stateTorn = some .erase := by
      rw [RetainedPlan.atReset_erased erase]
      exact erase
    rw [loadPlan_erase again]
    exact ⟨fun _ => ⟨rfl, rfl, rfl⟩, fun _ => rfl, fun j _ => erasedEntries_getElem j⟩
  · rw [RetainedPlan.atReset_kept erase]
    refine ⟨fun torn => ?_, fun torn => ?_, fun j torn => ?_⟩
    · rw [loadPlan_torn erase torn]
      exact ⟨rfl, rfl, rfl⟩
    · have head := torn.resolve_right erase
      rw [loadPlan_torn erase (.inl head), if_pos head]
      rfl
    · have group := torn.resolve_right erase
      rw [loadPlan_torn erase (.inr (.inl ⟨_, group⟩))]
      simp only [tornPlan]
      rw [loadEntries_getElem, if_pos group, erasedEntries_getElem]

section
variable {k : RetainedPlan} (head : k.headTorn = false) (groups : ∀ g : Fin 3, k.groupTorn[g] = false)
  (state : k.stateTorn = none)

include groups state in
/-- A plan whose head alone is torn loads the erase head (R23). -/
theorem loadPlan_headTorn :
    loadPlan { k with headTorn := true }.atReset = { k.record with
      state := .unchecked, stamp := 0, fault := .torn, head := .erased } := by
  have calm : ({ k with headTorn := true } : RetainedPlan).stateTorn ≠ some .erase := by simp [state]
  rw [RetainedPlan.atReset_kept calm, loadPlan_torn calm (.inl rfl), if_pos rfl,
    loadEntries_whole _ _ groups]
  rfl

include head state in
/-- A plan of whose groups some are torn, and nothing else (R23). -/
theorem loadPlan_groupTorn (g : Fin 3) :
    loadPlan { k with groupTorn := k.groupTorn.set g.val true g.isLt }.atReset = { k.record with
      state := .unchecked, stamp := 0, fault := .torn
      entries := loadEntries k.record.entries (k.groupTorn.set g.val true g.isLt) erasedEntries } := by
  have calm : ({ k with groupTorn := k.groupTorn.set g.val true g.isLt } : RetainedPlan).stateTorn ≠
      some .erase := by simp [state]
  rw [RetainedPlan.atReset_kept calm, loadPlan_torn calm (.inr (.inl (set_true _ g))), head]
  rfl

include head groups in
/-- A plan whose state alone is torn, by another write than an erase, keeps its fields (R23). -/
theorem loadPlan_checkTorn :
    loadPlan { k with stateTorn := some .check }.atReset = { k.record with
      state := .unchecked, stamp := 0, fault := .torn } := by
  rw [RetainedPlan.atReset_kept (by simp), loadPlan_torn (by simp) (.inr (.inr (by simp))), head,
    loadEntries_whole _ _ groups]
  rfl

end

/-- Settles O19: the load at the reset that tears, record by record, and at every later one. -/
theorem tornRecordsLoad : Obligations.TornRecordsLoad := by
  refine ⟨fun s r pins writing intact => ?_, fun s pins idle => ?_⟩
  · obtain ⟨u, he, hret, hr, hs⟩ := exec_hardwareReset_loads s pins
    rw [writing] at hr hs
    obtain ⟨head, groups, plans, selection⟩ := (intact_iff _).1 intact
    have geometry : u.store.geometry = loadGeometry (tearRecord s.retained r) := by
      rw [hs, loadStore_tearWrite_geometry]
    have plan : ∀ p : Fin 24, u.store.plans[p] = loadPlan (tearRecord s.retained r).plans[p].atReset :=
      fun p => by rw [hs, loadStore_plans, tearWrite_some_plans]
    have elsewhere : r ≠ .geometryHead → (∀ g, r ≠ .geometryGroup g) →
        u.store.geometry = s.retained.geometry := fun h g => by
      rw [geometry, tearRecord_geometry_other _ _ h g, loadGeometry_whole head groups]
    refine ⟨u, he, hret, fun p group state headW => ?_, fun i => ?_, ?_⟩
    · obtain ⟨ph, pg, ps⟩ := plans p
      rw [plan, tearRecord_plans_other _ _ _ group state headW, loadPlan_atReset_whole ph pg ps]
    · rw [hs, loadStore_tearWrite_selection, selection i]
      by_cases named : r = .selectionEntry i
      · simp only [if_pos named]; rfl
      · simp [if_neg named]
    · cases r with
      | geometryHead =>
        dsimp only
        rw [geometry, loadGeometry_torn (.inl rfl), tearRecord, if_pos rfl, loadEntries_whole _ _ groups]
      | geometryGroup g =>
        dsimp only
        rw [geometry, tearRecord, loadGeometry_torn (.inr (set_true _ g)), if_neg (by simp [head])]
        refine ⟨rfl, fun j => ?_⟩
        rw [loadEntries_set _ _ groups, blankEntries_getElem]
      | planHead p =>
        obtain ⟨-, pg, ps⟩ := plans p
        refine ⟨elsewhere (by simp) (by simp), ?_⟩
        rw [plan, tearRecord_planHead, loadPlan_headTorn pg ps]
      | planGroup p g =>
        obtain ⟨ph, pg, ps⟩ := plans p
        refine ⟨elsewhere (by simp) (by simp), ?_⟩
        rw [plan, tearRecord_planGroup, loadPlan_groupTorn ph ps]
        refine ⟨rfl, fun j => ?_⟩
        rw [loadEntries_set _ _ pg, erasedEntries_getElem]
      | planState p erase =>
        obtain ⟨ph, pg, -⟩ := plans p
        cases erase with
        | false =>
          refine ⟨elsewhere (by simp) (by simp), ?_⟩
          rw [plan, tearRecord_planCheck, loadPlan_checkTorn ph pg]
        | true =>
          refine ⟨elsewhere (by simp) (by simp), ?_, ?_⟩
          · rw [plan, tearRecord_planErase, RetainedPlan.tearErase_again, loadPlan_erase rfl]
            rfl
          · rw [hr, tearWrite_some_plans, tearRecord_planErase, RetainedPlan.tearErase_again]
            rfl
      | selectionEntry i => exact elsewhere (by simp) (by simp)
  · obtain ⟨u, he, g1, g2, g3, g4, plans⟩ := torn_stays s pins idle
    refine ⟨u, he, g1, g2, g3, g4, fun p => ?_⟩
    obtain ⟨hp, hk⟩ := plans p
    dsimp only
    rw [hp, hk]
    obtain ⟨t1, t2, t3⟩ := loadPlan_atReset_torn s.retained.plans[p]
    exact ⟨t1, t2, t3, loadPlan_atReset_whole, rfl⟩

end Sys2Proof.Machine
end

section
/-! Facts read off the state (R12, R17, R29, R32, R34, R117), and the windows of the junctions (R14, R33,
R64). -/

namespace Sys2Proof.Machine

open Sys2Proof

/-! ### READY and gated -/

theorem ready_iff (s : State) (p : Fin 24) : ready s (p.val + 1) = true ↔ PlanReady s p := by
  simp [ready, PlanReady, and_assoc]

/-- A number that is no plan's is READY for nothing. -/
theorem not_ready {s : State} {n : Nat} (h : ¬ PlanNumber n) : ready s n = false := by
  rw [← Bool.not_eq_true]
  exact fun isReady => h ((isPlan_iff n).1 (ready_isPlan isReady))

/-- Inbound link j is SET (R113, R117). -/
theorem inboundExit_set (s : State) (j : Junction) :
    (inboundExit (junctionCount s) j).any (spillSet s.gate .inbound) = true ↔
      ∃ k : LinkIndex, k.val = j.val ∧ k.val + 2 ≤ junctionCount s ∧
        s.gate.inbound[k].isSet = true := by
  unfold inboundExit outboundAfter
  split
  · next h =>
    simp only [Option.any_some, spillSet]
    exact ⟨fun isSet => ⟨⟨j.val, h.2⟩, rfl, by simp; omega, isSet⟩,
      fun ⟨k, hk, _, isSet⟩ => by rwa [show (⟨j.val, h.2⟩ : LinkIndex) = k from Fin.ext hk.symm]⟩
  · next h =>
    simp only [Option.any_none, Bool.false_eq_true, false_iff]
    rintro ⟨k, hk, hn, _⟩
    exact h ⟨by omega, by omega⟩

/-- Outbound link j-1 is SET (R113, R117). -/
theorem outboundExit_set (s : State) {j : Junction} (live : j.val < junctionCount s) :
    (outboundExit (junctionCount s) j).any (spillSet s.gate .outbound) = true ↔
      ∃ k : LinkIndex, k.val + 1 = j.val ∧ s.gate.outbound[k].isSet = true := by
  unfold outboundExit inboundBefore
  split
  · next h =>
    simp only [Option.any_some, spillSet]
    exact ⟨fun isSet => ⟨_, by simp; omega, isSet⟩,
      fun ⟨k, hk, isSet⟩ => by
        rwa [show (⟨j.val - 1, by omega⟩ : LinkIndex) = k from Fin.ext (by simp; omega)]⟩
  · next h =>
    simp only [Option.any_none, Bool.false_eq_true, false_iff]
    rintro ⟨k, hk, _⟩
    exact h ⟨by omega, live⟩

/-- Settles O12, fact by fact. -/
theorem derivedFactsFollowTheState : Obligations.DerivedFactsFollowTheState := by
  refine ⟨⟨ready_iff, fun s n => not_ready, inUse_iff⟩, ⟨fun s j live => ?_, fun x j => ?_⟩, fun s => ?_⟩
  · rw [gatedNow, Bool.or_eq_true, inboundExit_set, outboundExit_set s live]
  · simp [Snapshot.constraining, nth, and_assoc]
  · refine ⟨fun h => ?_, fun h => ?_, fun h h0 => ?_, fun h h0 => ?_, fun p => ?_⟩
    · simp [computingRole, h]
    · simp [computingRole, h]
    · simp [computingRole, h, h0]
    · simp [computingRole, h, h0]
    · refine ⟨rfl, rfl, fun free => ?_, fun v pinned => ?_⟩
      · simp [takeSnapshot, installedBias, free]
      · simp [takeSnapshot, installedBias, pinned, clampBias]

/-! ### Shares and windows (R14, R33, R64) -/

/-- The share of junction j under a plan whose anchor is junction a. -/
theorem shareOf_eq (r : PlanRecord) (j a : Junction) (h : r.head.anchor = a.val) :
    r.shareOf j.val =
      if r.entries[j].follow = true ∧ j ≠ a then r.entries[a].share else r.entries[j].share := by
  simp [PlanRecord.shareOf, effectiveShare, nth, PlanRecord.follows, PlanRecord.shares, h, Fin.ext_iff]

/-- The class that a share gives. -/
theorem classOf_iff (share : Nat) :
    (classOf share = .uncoordinated ↔ share = 0) ∧ (classOf share = .full ↔ share = 1000) ∧
    (classOf share = .windowed ↔ share ≠ 0 ∧ share ≠ 1000) := by
  unfold classOf
  split_ifs with h0 h1000 <;> simp [*]

theorem nominalWindow_eq (c gMin share : Nat) :
    ((c * share + 500) / 1000 < gMin → nominalWindow c gMin share = gMin) ∧
    (gMin ≤ (c * share + 500) / 1000 → nominalWindow c gMin share = (c * share + 500) / 1000) :=
  ⟨fun h => max_eq_left h.le, fun h => max_eq_right h⟩

/-- The table of R64, row by row. -/
theorem fixWindow_rows (r : PlanRecord) (gated : Bool) (j : Nat) :
    let h := r.head
    let g := nominalWindow h.c h.gMin (r.shareOf j)
    (r.shareOf j = 0 → fixWindow r gated j = { gEff := 0, full := false }) ∧
    (r.shareOf j ≠ 0 → r.shareOf j ≠ 1000 → gated = false →
      fixWindow r gated j = { gEff := g, full := false }) ∧
    (r.shareOf j ≠ 0 → r.shareOf j ≠ 1000 → gated = true →
      fixWindow r gated j = { gEff := max h.gMin ((g * h.gatePct + 50) / 100), full := false }) ∧
    (r.shareOf j = 1000 → gated = false → fixWindow r gated j = { gEff := h.c, full := true }) ∧
    (r.shareOf j = 1000 → gated = true →
      fixWindow r gated j =
        { gEff := min (h.c - h.sMin) (max h.gMin ((h.c * h.gatePct + 50) / 100)), full := false }) := by
  obtain ⟨uncoordinated, full, windowed⟩ := classOf_iff (r.shareOf j)
  refine ⟨fun h0 => ?_, fun h0 h1 hg => ?_, fun h0 h1 hg => ?_, fun h1 hg => ?_, fun h1 hg => ?_⟩
  · simp [fixWindow, uncoordinated.2 h0]
  · simp [fixWindow, windowed.2 ⟨h0, h1⟩, hg]
  · simp [fixWindow, windowed.2 ⟨h0, h1⟩, hg, gatedWindow]
  · simp [fixWindow, full.2 h1, hg]
  · simp [fixWindow, full.2 h1, hg, gatedWindow]

/-- A snapshot holds the gate as it stands (R33, R117). -/
theorem takeSnapshot_gated (s : State) (p : Nat) (role : PlanRole) {j : Junction}
    (live : j.val < junctionCount s) : (takeSnapshot s p role).gated j.val = gatedNow s j := by
  have inbound : (decide (j.val + 1 < junctionCount s) &&
      nth (Vector.ofFn fun k : LinkIndex => s.gate.inbound[k].isSet) j.val false) = true ↔
      ∃ k : LinkIndex, k.val = j.val ∧ k.val + 2 ≤ junctionCount s ∧
        s.gate.inbound[k].isSet = true := by
    simp only [Bool.and_eq_true, decide_eq_true_eq, nth]
    constructor
    · rintro ⟨next, isSet⟩
      split at isSet
      · next lt => exact ⟨⟨j.val, lt⟩, rfl, next, by simpa using isSet⟩
      · cases isSet
    · rintro ⟨k, hk, next, isSet⟩
      have lt : j.val < 11 := hk ▸ k.isLt
      refine ⟨by omega, ?_⟩
      rw [dif_pos lt]
      simpa [← hk] using isSet
  have outbound : (decide (0 < j.val) &&
      nth (Vector.ofFn fun k : LinkIndex => s.gate.outbound[k].isSet) (j.val - 1) false) = true ↔
      ∃ k : LinkIndex, k.val + 1 = j.val ∧ s.gate.outbound[k].isSet = true := by
    simp only [Bool.and_eq_true, decide_eq_true_eq, nth]
    have lt : j.val - 1 < 11 := by omega
    rw [dif_pos lt]
    constructor
    · rintro ⟨pos, isSet⟩
      exact ⟨⟨j.val - 1, lt⟩, by simp; omega, by simpa using isSet⟩
    · rintro ⟨k, hk, isSet⟩
      exact ⟨by omega, by simpa [← hk] using isSet⟩
  rw [Bool.eq_iff_iff, gatedNow, Bool.or_eq_true, inboundExit_set, outboundExit_set s live,
    ← inbound, ← outbound, ← Bool.or_eq_true]
  rfl

theorem takeSnapshot_gEff (s : State) (p : Nat) (role : PlanRole) {j : Junction}
    (live : j.val < junctionCount s) :
    (takeSnapshot s p role).gEff j.val =
      (fixWindow (s.store.plan p) (gatedNow s j) j.val).gEff := by
  have share : (takeSnapshot s p role).share j.val = (s.store.plan p).shareOf j.val := rfl
  rw [Snapshot.gEff, takeSnapshot_gated s p role live, Snapshot.g, Snapshot.cls, share, fixWindow]
  cases hc : classOf ((s.store.plan p).shareOf j.val) <;> cases gatedNow s j <;> rfl

/-- Settles O21: shares and classes, the table of R64, and its agreement with a snapshot. -/
theorem windowsFollowTheShares : Obligations.WindowsFollowTheShares := by
  refine ⟨fun r j a anchor => ?_, fixWindow_rows, fun s p role j live =>
    ⟨takeSnapshot_gated s p role live, takeSnapshot_gEff s p role live⟩⟩
  obtain ⟨uncoordinated, full, windowed⟩ := classOf_iff (r.shareOf j.val)
  exact ⟨shareOf_eq r j a anchor, uncoordinated, full, windowed, nominalWindow_eq⟩

end Sys2Proof.Machine
end

section
/-! Resets: the state after the reset of a unit that has never been written, RESET_N low, and the restart
with its start decision (R169 to R171). -/

namespace Sys2Proof.Machine

open Sys2Proof

/-! ### The state after reset -/

theorem rxCounters_zero_bounded : RxCounters.zero.Bounded := by
  constructor <;> exact Nat.zero_le _

theorem line_initial_bounded : Line.initial.Bounded := by
  refine ⟨?_, ?_, ?_, ?_, ?_, ?_, ?_, ?_, ?_, rxCounters_zero_bounded, ?_, ?_⟩ <;>
    simp [Line.initial, lineReplyCount, Config.steerCredits, Config.replyCredits]

theorem centre_initial_bounded : Centre.initial.Bounded := by
  refine ⟨?_, ?_, ?_, ?_, rxCounters_zero_bounded⟩ <;> simp [Centre.initial, centreReplyCount]

theorem centreGoes_reset : CentreGoes State.reset := by
  constructor <;> simp [State.reset, Centre.initial, Handler.initial]

theorem priorityBounded_reset : PriorityBounded State.reset := by
  simp [PriorityBounded, State.reset, Priority.initial, Config.clockModulus]

theorem store_blank_inRange : Store.blank.InRange := by
  refine (inRange_iff _).2 ⟨⟨geometryHead_blank_inRange, blankEntries_inRange⟩, fun p => ?_, fun i => ?_⟩
  · simpa [Store.blank] using planRecord_erased_inRange
  · simpa [Store.blank] using selectionEntry_blank_inRange

theorem retained_blank_contents : Retained.blank.contents = Store.blank := by
  refine store_ext rfl (fun p => ?_) (fun i => rfl)
  rw [contents_plans]
  simp [Retained.blank, RetainedPlan.blank, Store.blank]

theorem retained_blank_sound : Retained.blank.Sound := by
  refine ⟨rfl, fun g => ?_, fun p => ?_, fun i => ?_⟩
  · simp [Retained.blank]
  · have blank : Retained.blank.plans[p] = .blank := by simp [Retained.blank]
    rw [blank]
    exact ⟨rfl, fun g => by simp [RetainedPlan.blank], rfl, fun _ => rfl⟩
  · simp [Retained.blank]

/-- Settles O59, invariant by invariant. -/
theorem resetIsSafe : Obligations.ResetIsSafe := by
  refine ⟨⟨line_initial_bounded, centre_initial_bounded⟩, centreGoes_reset, ?_, priorityBounded_reset,
    ⟨?_, rfl, rfl, rfl, rfl, rfl, rfl, rfl⟩, ?_, rfl⟩
  · exact fun _ free _ => absurd free (by simp [State.reset, Line.initial])
  · refine (storedInRange_iff _).2 ⟨store_blank_inRange, ?_⟩
    rw [show State.reset.retained = Retained.blank from rfl, retained_blank_contents]
    exact store_blank_inRange
  · refine (copiesAgree_iff _).2 ⟨retained_blank_sound, ?_⟩
    rw [show retainedAfterWrite State.reset = Retained.blank from rfl, retained_blank_sound.load,
      retained_blank_contents]
    rfl

/-! ### RESET_N low (R170) -/

/-- In reset the handler takes no frame. -/
theorem nextFrame_inReset {s : State} (h : s.inReset = true) : nextFrame s = none := by
  simp [nextFrame, nextPort, h]

theorem serve_inReset {α : Type} {k : RequestKind} {parse : List Byte → Option α}
    {answer : Taken → α → State → Answer} {effect : Taken → α → State → State} {s : State}
    (h : s.inReset = true) : serve k parse answer effect s = s := by
  simp [serve, nextFrame_inReset h]

theorem whenRunning_inReset {s : State} (act : State → State) (h : s.inReset = true) :
    whenRunning act s = s := by
  simp [whenRunning, h]

/-- In reset every command but the resets changes nothing. -/
theorem exec_inReset {s u : State} {c : Instr} (low : s.inReset = true) (h : exec c s = .next u)
    (asserted : c ≠ .resetNAssert) (hard : ∀ pins, c ≠ .hardwareReset pins) : u = s := by
  cases c with
  | resetNAssert => exact absurd rfl asserted
  | hardwareReset pins => exact absurd rfl (hard pins)
  | report | priorityCall | priorityCancel | readStatus | readJunction | readBand | readPlanHead
  | readPlanGroup | writePlanHead | writePlanGroup | erasePlan | checkPlan | readGeometryHead
  | readGeometryGroup | writeGeometryHead | writeGeometryGroup | checkGeometry | readSelection
  | writeSelection | pinPlan | pinBias | releaseHold | enterHold | resetUnit | resetEngine =>
    exact (next_inj h).symm.trans (serve_inReset low)
  | unknownKind =>
    refine (next_inj h).symm.trans ?_
    simp [serveUnknown, nextFrame_inReset low]
  | localZero j =>
    obtain ⟨i, rfl⟩ := next_of_junction (act := localZero) h
    exact whenRunning_inReset _ low
  | windowClose j =>
    obtain ⟨i, rfl⟩ := next_of_junction (act := windowClose) h
    exact whenRunning_inReset _ low
  | priorityExpiry j tag =>
    obtain ⟨i, rfl⟩ := next_of_junction (act := fun j => expireEntry j tag) h
    exact whenRunning_inReset _ low
  | resetUnitTakesEffect _ | cycleBoundary | beatDue | evaluation | pinLapse | periodEnd
  | retentionComplete | computationComplete | lineBusy | lineFree _ | lineFault | frameComplete
  | arbitrationLoss | lineFrameReceived _ | centreFrameReceived _ | centreFrameComplete
  | decisecondTick | lineFrameDiscarded _ _ | centreFrameDiscarded _ _ =>
    exact (next_inj h).symm.trans (whenRunning_inReset _ low)

/-! ### The hardware reset (R169 to R171) -/

/-- What the start decision asks before it enters ENTERING plan p + 1 (R171). -/
def Starts (s : State) (p : Fin 24) : Prop :=
  s.straps.start = .auto ∧ s.store.geometry.head.startPlan = p.val + 1 ∧ PlanReady s p

theorem startDecision_stays {s : State} (h : ∀ p, ¬ Starts s p) : startDecision s = s := by
  unfold startDecision
  dsimp only
  rw [if_neg]
  rintro ⟨auto, -, plan, isReady⟩
  obtain ⟨p, named⟩ := exists_plan plan
  rw [named] at isReady
  exact h p ⟨auto, named, (ready_iff s p).1 isReady⟩

theorem startDecision_enters {s : State} {p : Fin 24} (h : Starts s p) :
    startDecision s = settle (enterEntering (p.val + 1) s) := by
  obtain ⟨auto, named, isReady⟩ := h
  unfold startDecision
  dsimp only
  rw [named, if_pos ⟨auto, isReady.2.1, isPlan_succ p, (ready_iff s p).2 isReady⟩]

theorem enterEntering_selector (p : Nat) (s : State) :
    (enterEntering p s).selector = { s.selector with liveBias := installedBias s p } := by
  simp [enterEntering, installedBias]

/-- The entry into ENTERING with the computation that its cause starts in an idle engine. -/
theorem settle_enterEntering (s : State) (p : Nat) (idle : s.engine = .initial)
    (quiet : s.causeRaised = false) :
    settle (enterEntering p s) =
      { s with
        timebase := { s.timebase with mode := .entering, entry := p }
        selector := { s.selector with liveBias := installedBias s p }
        engine := { s.engine with
          computing := some (takeSnapshot (settle (enterEntering p s)) p .entry) }
        centre := (settle (enterEntering p s)).centre } := by
  have raised : (enterEntering p s).causeRaised = true := by simp [enterEntering, raiseCause]
  have arrived := settle_cause (s := s) raised (by simp)
  have timebase : (settle (enterEntering p s)).timebase =
      { s.timebase with mode := .entering, entry := p } := by simp [enterEntering_timebase]
  rw [CauseArrived, timebase, idle, show Engine.initial.computing = none from rfl] at arrived
  obtain ⟨q, role, computing, engine⟩ := arrived
  simp only [computingRole, timebase, Option.some.injEq, Prod.mk.injEq] at computing
  obtain ⟨rfl, rfl⟩ := computing
  exact State.ext (by simp) (by simp) (by simp) (by simp) (by simp)
    (by rw [engine, idle]; rfl) timebase (by simp) (by simp)
    (by simp) (by simp [enterEntering_selector]) (by simp) (by simp) (by simp) (by simp) rfl (by simp)
    (by simp [quiet]) (by simp)

/-- A Centre Port on which nothing has stood sends the notice of the entry as its first. -/
theorem settle_enterEntering_centre {s : State} (fresh : s.centre = .initial) (p : Nat) :
    let c := (settle (enterEntering p s)).centre
    c.rx = [] ∧ centreReplies c = [] ∧ c.errors = .zero ∧ c.noticeSeq = 1 ∧
    centreNotices c = [{ seq := 1, body := .modeChanged .hold .entering p }] := by
  have spoke := enterEntering_spoke p s
  have settled : (settle (enterEntering p s)).centre = (enterEntering p s).centre := by simp
  have noReply : centreReplies s.centre = [] := by rw [fresh]; rfl
  have noNotice : centreNotices s.centre = [] := by rw [fresh]; rfl
  obtain ⟨seq, -, notices⟩ := spoke.notices
  have queued := notices (by simp [noNotice, Config.noticePlaces])
  dsimp only
  rw [settled]
  refine ⟨spoke.centreRx.trans ?_, spoke.centreReplies.trans noReply, spoke.centreErrors.trans ?_,
    seq.trans ?_, queued.trans ?_⟩
  · rw [fresh]; rfl
  · rw [fresh]; rfl
  · rw [fresh]; rfl
  · rw [noNotice, fresh]; rfl

/-- What a start leaves of a state whose engine, selector and Centre Port are fresh. -/
theorem startDecision_restarts {held : State} {p : Fin 24} (starts : Starts held p)
    (engine : held.engine = .initial) (selector : held.selector = .initial)
    (centre : held.centre = .initial) (quiet : held.causeRaised = false) :
    ∃ u, startDecision held = u ∧
      u = { held with
        timebase := { held.timebase with mode := .entering, entry := p.val + 1 }
        selector := { held.selector with liveBias := held.store.plans[p].head.biasNominal }
        engine := { held.engine with computing := some (takeSnapshot u (p.val + 1) .entry) }
        centre := u.centre } ∧
      u.centre.rx = [] ∧ centreReplies u.centre = [] ∧ u.centre.errors = .zero ∧
      u.centre.noticeSeq = 1 ∧
      centreNotices u.centre = [{ seq := 1, body := .modeChanged .hold .entering (p.val + 1) }] := by
  refine ⟨_, startDecision_enters starts, ?_, settle_enterEntering_centre centre _⟩
  have entered := settle_enterEntering held (p.val + 1) engine quiet
  have bias : installedBias held (p.val + 1) = held.store.plans[p].head.biasNominal := by
    simp [installedBias, selector, Selector.initial]
  rwa [bias] at entered

/-- Settles O56: the asserted reset by its definition, the held one by `exec_inReset`, and the hardware
reset by the branches of the start decision. -/
theorem hardwareResetRestarts : Obligations.HardwareResetRestarts := by
  refine ⟨⟨fun s => rfl, fun s u c low h => exec_inReset low h⟩, fun s pins => ?_⟩
  intro retained held starts level
  have done : exec (.hardwareReset pins) s = .next (startDecision held) := rfl
  rw [done]
  refine ⟨⟨?_, ?_⟩, fun stays => ?_, fun p starts => ?_⟩
  · rw [unitAddress]
    cases pins.addrHi <;> cases pins.addrLo <;> rfl
  · rw [lineRate]
    cases pins.rate <;> rfl
  · rw [startDecision_stays fun p (h : Starts held p) => stays p h]
  · have starts : Starts held p := starts
    have engine : held.engine = .initial := rfl
    have selector : held.selector = .initial := rfl
    have centre : held.centre = .initial := rfl
    have quiet : held.causeRaised = false := rfl
    obtain ⟨u, entered, changed⟩ := startDecision_restarts starts engine selector centre quiet
    clear_value held
    exact ⟨u, congrArg _ entered, changed⟩

end Sys2Proof.Machine
end

section
/-! The Request Handler: the port served next, the sender, the rights, and the handler's own refusals (R6,
R165, R166). -/

namespace Sys2Proof.Machine

open Sys2Proof

/-! ### The port served next (R165) -/

/-- A frame waits on the line and its reply queue has a place. -/
theorem lineServable_iff (s : State) :
    lineServable s = true ↔ s.line.rx ≠ [] ∧ (lineReplies s.line).length < 8 := by
  simp [lineServable, lineReplyCount_eq, Config.lineReplyPlaces]

/-- A frame waits on the centre link and its reply queue has a place. -/
theorem centreServable_iff (s : State) :
    centreServable s = true ↔ s.centre.rx ≠ [] ∧ (centreReplies s.centre).length < 4 := by
  simp [centreServable, centreReplyCount_eq, Config.centreReplyPlaces]

theorem nextPort_line_iff {s : State} (running : s.inReset = false) (open_ : s.handler.reset = none) :
    nextPort s = some .line ↔
      lineServable s = true ∧ (¬ centreServable s = true ∨ s.handler.served = .centre) := by
  cases hl : lineServable s <;> cases hc : centreServable s <;> cases hs : s.handler.served <;>
    simp [nextPort, running, open_, hl, hc, hs]

theorem nextPort_centre_iff {s : State} (running : s.inReset = false)
    (open_ : s.handler.reset = none) :
    nextPort s = some .centre ↔
      centreServable s = true ∧ (¬ lineServable s = true ∨ s.handler.served = .line) := by
  cases hl : lineServable s <;> cases hc : centreServable s <;> cases hs : s.handler.served <;>
    simp [nextPort, running, open_, hl, hc, hs]

theorem open_of_nextPort {s : State} {p : Port} (h : nextPort s = some p) :
    s.inReset = false ∧ s.handler.reset = none := by
  simpa using (Option.ite_none_left_eq_some.1 h).1

/-- The port served next has a frame. -/
theorem headFrame_of_nextPort {s : State} {p : Port} (h : nextPort s = some p) :
    ∃ f, headFrame s p = some f := by
  obtain ⟨running, open_⟩ := open_of_nextPort h
  cases p with
  | line =>
    have servable := ((nextPort_line_iff running open_).1 h).1
    exact ⟨_, List.head?_eq_some_head ((lineServable_iff s).1 servable).1⟩
  | centre =>
    have servable := ((nextPort_centre_iff running open_).1 h).1
    exact ⟨_, List.head?_eq_some_head ((centreServable_iff s).1 servable).1⟩

theorem nextFrame_eq (s : State) : nextFrame s = (nextPort s).bind fun p =>
    (headFrame s p).map fun f => { port := p, frame := f, sender := senderOf s p f } := by
  unfold nextFrame
  cases nextPort s with
  | none => rfl
  | some p => cases h : headFrame s p <;> simp [h]

theorem nextFrame_iff (s : State) (t : Taken) :
    nextFrame s = some t ↔ nextPort s = some t.port ∧ headFrame s t.port = some t.frame ∧
      t.sender = senderOf s t.port t.frame := by
  obtain ⟨port, frame, sender⟩ := t
  simp only [nextFrame_eq, Option.bind_eq_some_iff, Option.map_eq_some_iff, Taken.mk.injEq]
  constructor
  · rintro ⟨_, next, _, head, rfl, rfl, rfl⟩
    exact ⟨next, head, rfl⟩
  · rintro ⟨next, head, rfl⟩
    exact ⟨_, next, _, head, rfl, rfl, rfl⟩

theorem nextPort_iff (s : State) (p : Port) :
    nextPort s = some p ↔ ∃ t, nextFrame s = some t ∧ t.port = p := by
  constructor
  · intro h
    obtain ⟨f, hf⟩ := headFrame_of_nextPort h
    exact ⟨⟨p, f, senderOf s p f⟩, (nextFrame_iff s _).2 ⟨h, hf, rfl⟩, rfl⟩
  · rintro ⟨t, ht, rfl⟩
    exact ((nextFrame_iff s t).1 ht).1

theorem headFrame_eq (s : State) (p : Port) : headFrame s p = (receiveQueue s p).head? := by
  cases p <;> rfl

/-! ### The sender (R6) -/

/-- Junction j is one of 0..N-1 and its entry holds the address. -/
def HoldsAddress (s : State) (address : Nat) (j : Junction) : Prop :=
  j.val < junctionCount s ∧ s.store.geometry.entries[j].address = address

theorem allJunctions_sorted : allJunctions.Pairwise (· < ·) := by decide

/-- The first element of an ascending list that passes a test is the least that does. -/
theorem find_eq_some_iff_least {l : List Junction} (sorted : l.Pairwise (· < ·)) (p : Junction → Bool)
    (j : Junction) : l.find? p = some j ↔ (j ∈ l ∧ p j = true) ∧ ∀ i ∈ l, i < j → ¬ p i = true := by
  induction l with
  | nil => simp
  | cons x xs ih =>
    obtain ⟨below, sorted⟩ := List.pairwise_cons.1 sorted
    cases hx : p x with
    | true =>
      rw [List.find?_cons_of_pos hx, Option.some_inj]
      constructor
      · rintro rfl
        refine ⟨⟨List.mem_cons_self, hx⟩, fun i hi lt => ?_⟩
        rcases List.mem_cons.1 hi with rfl | hi
        · exact absurd lt (lt_irrefl _)
        · exact absurd lt (lt_asymm (below i hi))
      · rintro ⟨⟨hj, -⟩, least⟩
        rcases List.mem_cons.1 hj with rfl | hj
        · rfl
        · exact absurd hx (least x List.mem_cons_self (below j hj))
    | false =>
      rw [List.find?_cons_of_neg (by simp [hx]), ih sorted]
      constructor
      · rintro ⟨⟨hj, pj⟩, least⟩
        refine ⟨⟨List.mem_cons_of_mem _ hj, pj⟩, fun i hi lt => ?_⟩
        rcases List.mem_cons.1 hi with rfl | hi
        · simp [hx]
        · exact least i hi lt
      · rintro ⟨⟨hj, pj⟩, least⟩
        rcases List.mem_cons.1 hj with rfl | hj
        · exact absurd pj (by simp [hx])
        · exact ⟨⟨hj, pj⟩, fun i hi => least i (List.mem_cons_of_mem _ hi)⟩

theorem mem_liveJunctions (s : State) (j : Junction) :
    j ∈ liveJunctions s ↔ j.val < junctionCount s := by
  simp [liveJunctions, mem_allJunctions]

/-- The junction of an address is the lowest that holds it. -/
theorem junctionOf_eq_some_iff (s : State) (address : Nat) (j : Junction) :
    junctionOf s address = some j ↔
      HoldsAddress s address j ∧ ∀ i : Junction, i < j → ¬ HoldsAddress s address i := by
  rw [junctionOf, find_eq_some_iff_least (l := liveJunctions s) (allJunctions_sorted.filter _)]
  simp only [mem_liveJunctions, decide_eq_true_eq, HoldsAddress]
  constructor
  · rintro ⟨holds, least⟩
    exact ⟨holds, fun i lt h => least i h.1 lt h.2⟩
  · rintro ⟨holds, least⟩
    exact ⟨holds, fun i live lt h => least i lt ⟨live, h⟩⟩

theorem junctionOf_eq_none_iff (s : State) (address : Nat) :
    junctionOf s address = none ↔ ∀ j, ¬ HoldsAddress s address j := by
  simp [junctionOf, List.find?_eq_none, mem_liveJunctions, HoldsAddress]

theorem senderOf_line_junction_iff (s : State) (f : Frame) (j : Junction) :
    senderOf s .line f = .junction j ↔ junctionOf s (addressOf f.src) = some j := by
  cases h : junctionOf s (addressOf f.src) <;> simp [senderOf, h]

theorem senderOf_line_unknown_iff (s : State) (f : Frame) :
    senderOf s .line f = .unknown ↔ junctionOf s (addressOf f.src) = none := by
  cases h : junctionOf s (addressOf f.src) <;> simp [senderOf, h]

/-! ### The rights (R166) -/

theorem isReadKind_iff (k : RequestKind) :
    isReadKind k = true ↔ k ∈ [RequestKind.readStatus, .readJunction, .readBand, .readPlanHead,
      .readPlanGroup, .readGeometryHead, .readGeometryGroup, .readSelection] := by
  cases k <;> simp [isReadKind]

theorem hasRight_centre {t : Taken} (h : t.sender = .centre) (k : RequestKind) :
    hasRight k t = true ↔ k ≠ .report := by
  simp [hasRight, h, maySend, namesOther]

theorem hasRight_unknown {t : Taken} (h : t.sender = .unknown) (k : RequestKind) :
    hasRight k t = true ↔ isReadKind k = true := by
  simp [hasRight, h, maySend, namesOther]

/-- A call or cancel of the right length has a first character, which names its junction. -/
theorem namesOther_eq_false_iff (k : RequestKind) (j : Junction) (p : List Byte) :
    namesOther k (.junction j) p = false ↔
      (k = .priorityCall ∨ k = .priorityCancel → p.length = k.payloadLength →
        ∃ b rest, p = b :: rest ∧ b.toNat = j.val) := by
  by_cases call : k = .priorityCall ∨ k = .priorityCancel
  · have long : k.payloadLength ≠ 0 := by rcases call with rfl | rfl <;> simp [RequestKind.payloadLength]
    cases p with
    | nil => simp [namesOther, long.symm]
    | cons b rest => simp [namesOther, call, Bool.or_eq_true]
  · simp [namesOther, call]

theorem hasRight_junction {t : Taken} {j : Junction} (h : t.sender = .junction j) (k : RequestKind) :
    hasRight k t = true ↔ isReadKind k = true ∨ k = .report ∨
      ((k = .priorityCall ∨ k = .priorityCancel) ∧
        (t.frame.payload.length = k.payloadLength →
          ∃ b rest, t.frame.payload = b :: rest ∧ b.toNat = j.val)) := by
  rw [hasRight, h, Bool.and_eq_true, Bool.not_eq_true', namesOther_eq_false_iff]
  by_cases call : k = .priorityCall ∨ k = .priorityCancel
  · have other : isReadKind k = false ∧ k ≠ .report := by
      rcases call with rfl | rfl <;> simp [isReadKind]
    have may : maySend k (.junction j) = true := by
      rcases call with rfl | rfl <;> rfl
    simp [call, other, may]
  · rw [not_or] at call
    simp [call, maySend]

/-! ### The handler's own refusals (R166) -/

/-- The command of a kind serves it, by the parser that reads a request of the kind. -/
theorem exec_commandOf (k : RequestKind) :
    ∃ (α : Type) (parse : List Byte → Option α) (mk : α → Request)
      (answer : Taken → α → State → Answer) (effect : Taken → α → State → State),
      (∀ s, exec (commandOf (some k)) s = .next (serve k parse answer effect s)) ∧
      ∀ p, parseRequest k p = (parse p).map mk := by
  cases k <;> exact ⟨_, _, _, _, _, fun _ => rfl, fun _ => rfl⟩

section
variable {s : State} {t : Taken} {k : RequestKind}

theorem refusedWith_rights (hn : nextFrame s = some t) (hk : kindOf t.frame.kind = some k)
    (hr : hasRight k t = false) : RefusedWith (commandOf (some k)) s t .refusedRights := by
  obtain ⟨_, parse, mk, answer, effect, done, -⟩ := exec_commandOf k
  exact ⟨_, (done s).trans (congrArg _ (serve_rights hn hk hr)), refused_answered s t _⟩

theorem refusedWith_payload (hn : nextFrame s = some t) (hk : kindOf t.frame.kind = some k)
    (hr : hasRight k t = true) (hp : parseRequest k t.frame.payload = none) :
    RefusedWith (commandOf (some k)) s t .badArgument := by
  obtain ⟨_, parse, mk, answer, effect, done, parsed⟩ := exec_commandOf k
  have unread : parse t.frame.payload = none := Option.map_eq_none_iff.1 ((parsed _).symm.trans hp)
  exact ⟨_, (done s).trans (congrArg _ (serve_payload hn hk hr unread)), refused_answered s t _⟩

theorem refusedWith_kind (hn : nextFrame s = some t) (hk : kindOf t.frame.kind = none) :
    RefusedWith .unknownKind s t .unknownKind := by
  have served : serveUnknown s = answered s t .unknownKind [] := by
    simp [serveUnknown, hn, hk, answered]
  exact ⟨_, congrArg Host.Outcome.next served, refused_answered s t _⟩

end

/-- Settles O7: the port, the sender, the rights and the refusals, each by its lemma. -/
theorem handlerAdmits : Obligations.HandlerAdmits := by
  refine ⟨⟨fun s running open_ => ?_, fun s t next => ?_, fun k t => ?_⟩, fun s t next =>
    ⟨refusedWith_kind next, fun k => refusedWith_rights next, fun k => refusedWith_payload next⟩⟩
  · dsimp only
    rw [← lineServable_iff, ← centreServable_iff]
    exact ⟨nextPort_line_iff running open_, nextPort_centre_iff running open_, nextPort_iff s⟩
  · obtain ⟨-, head, sender⟩ := (nextFrame_iff s t).1 next
    refine ⟨headFrame_eq s t.port ▸ head, fun port => ?_, fun port => ?_⟩
    · rw [sender, port]
      rfl
    · rw [sender, port]
      exact ⟨fun j => (senderOf_line_junction_iff s _ j).trans (junctionOf_eq_some_iff s _ j),
        (senderOf_line_unknown_iff s _).trans (junctionOf_eq_none_iff s _)⟩
  · dsimp only
    rw [← isReadKind_iff]
    exact ⟨fun h => hasRight_centre h k, fun h => hasRight_unknown h k, fun j h =>
      hasRight_junction h k⟩

end Sys2Proof.Machine
end

section
/-! A geometry head write that changes N: roster, demand, gate and notices (R4, R97, R121, R139). -/

namespace Sys2Proof.Machine

open Sys2Proof

/-! ### The link-directions that a smaller N leaves out (R121) -/

/-- The notices of link k once it is left out. -/
def leftOutNotices (g : Gate) (k : LinkIndex) : List NoticeBody :=
  spillNotice .inbound k g.inbound[k] .clear k.val .geometry ++
    spillNotice .outbound k g.outbound[k] .clear (k.val + 1) .geometry

/-- Both directions of link k become CLEAR. -/
def clearLink (k : LinkIndex) (s : State) : State :=
  setSpill .outbound k .clear (k.val + 1) .geometry (setSpill .inbound k .clear k.val .geometry s)

theorem gateForN_cons (n : Nat) (k : LinkIndex) (ks : List LinkIndex) (s : State) :
    gateForN n (k :: ks) s = gateForN n ks (if k.val + 1 < n then s else clearLink k s) := by
  rw [gateForN]
  split <;> rfl

theorem clearLink_gate (k : LinkIndex) (s : State) :
    (clearLink k s).gate =
      { inbound := s.gate.inbound.set k.val .clear, outbound := s.gate.outbound.set k.val .clear } := by
  simp [clearLink, writeSpill]

theorem clearLink_spoke (k : LinkIndex) (s : State) :
    Spoke s (clearLink k s) [] (leftOutNotices s.gate k) := by
  have spoke := (setSpill_spoke .inbound k .clear k.val .geometry s).trans
    (setSpill_spoke .outbound k .clear (k.val + 1) .geometry _)
  simpa [spillOf, writeSpill, clearLink, leftOutNotices] using spoke

/-- What is left out is CLEAR, and the rest stays. -/
theorem gateForN_gate (n : Nat) (ks : List LinkIndex) (s : State) (k : LinkIndex) :
    (gateForN n ks s).gate.inbound[k] =
      (if k ∈ ks ∧ n ≤ k.val + 1 then .clear else s.gate.inbound[k]) ∧
    (gateForN n ks s).gate.outbound[k] =
      (if k ∈ ks ∧ n ≤ k.val + 1 then .clear else s.gate.outbound[k]) := by
  induction ks generalizing s with
  | nil => simp [gateForN]
  | cons x xs ih =>
    rw [gateForN_cons]
    obtain ⟨inbound, outbound⟩ := ih (if x.val + 1 < n then s else clearLink x s)
    rw [inbound, outbound]
    by_cases kept : x.val + 1 < n
    · grind
    · by_cases same : k = x
      · subst same
        simp [kept, clearLink_gate]
      · have apart : x.val ≠ k.val := fun h => same (Fin.ext h.symm)
        simp [kept, clearLink_gate, same, Vector.getElem_set_ne, apart]

/-- A link that is left out tells what it told before the links ahead of it were left out. -/
theorem leftOutNotices_clearLink {k x : LinkIndex} (apart : k ≠ x) (s : State) :
    leftOutNotices (clearLink x s).gate k = leftOutNotices s.gate k := by
  have apart : x.val ≠ k.val := fun h => apart (Fin.ext h.symm)
  simp [leftOutNotices, clearLink_gate, Vector.getElem_set_ne, apart]

theorem gateForN_spoke (n : Nat) {ks : List LinkIndex} (distinct : ks.Nodup) (s : State) :
    Spoke s (gateForN n ks s) []
      ((ks.filter fun k => decide (n ≤ k.val + 1)).flatMap (leftOutNotices s.gate)) := by
  induction ks generalizing s with
  | nil => exact .of_eq rfl rfl rfl
  | cons x xs ih =>
    obtain ⟨fresh, distinct⟩ := List.nodup_cons.1 distinct
    rw [gateForN_cons]
    by_cases kept : x.val + 1 < n
    · rw [if_pos kept, List.filter_cons_of_neg (by simpa using kept)]
      exact ih distinct s
    · rw [if_neg kept, List.filter_cons_of_pos (by simpa using kept), List.flatMap_cons]
      have rest := ih distinct (clearLink x s)
      have same : (xs.filter fun k => decide (n ≤ k.val + 1)).flatMap
            (leftOutNotices (clearLink x s).gate) =
          (xs.filter fun k => decide (n ≤ k.val + 1)).flatMap (leftOutNotices s.gate) :=
        List.flatMap_congr fun k hk =>
          leftOutNotices_clearLink (ne_of_mem_of_not_mem (List.mem_of_mem_filter hk) fresh) s
      rw [same] at rest
      exact (clearLink_spoke x s).trans rest

theorem allLinks_nodup : allLinks.Nodup := by decide

theorem mem_allLinks (k : LinkIndex) : k ∈ allLinks := by
  revert k
  decide

/-! ### The change of N -/

theorem changeN_of_ne {old : Nat} {s : State} (h : old ≠ junctionCount s) :
    changeN old s = gateForN (junctionCount s) allLinks
      ((s.setRoster (rosterForN old (junctionCount s) s.roster)).setDemand
        (demandForN (junctionCount s) s.demand)) := by
  simp [changeN, h]

theorem changeN_spoke {old : Nat} {s : State} (h : old ≠ junctionCount s) :
    Spoke s (changeN old s) []
      ((allLinks.filter fun k => decide (junctionCount s ≤ k.val + 1)).flatMap
        (leftOutNotices s.gate)) := by
  rw [changeN_of_ne h]
  exact (gateForN_spoke _ allLinks_nodup _).after_eq rfl rfl rfl

theorem changeN_roster {old : Nat} {s : State} (h : old ≠ junctionCount s) :
    (changeN old s).roster = rosterForN old (junctionCount s) s.roster := by
  simp [changeN_of_ne h]

theorem changeN_demand {old : Nat} {s : State} (h : old ≠ junctionCount s) :
    (changeN old s).demand = demandForN (junctionCount s) s.demand := by
  simp [changeN_of_ne h]

theorem changeN_gate {old : Nat} {s : State} (h : old ≠ junctionCount s) (k : LinkIndex) :
    (changeN old s).gate.inbound[k] =
      (if junctionCount s ≤ k.val + 1 then .clear else s.gate.inbound[k]) ∧
    (changeN old s).gate.outbound[k] =
      (if junctionCount s ≤ k.val + 1 then .clear else s.gate.outbound[k]) := by
  rw [changeN_of_ne h]
  simpa [mem_allLinks] using gateForN_gate (junctionCount s) allLinks
    ((s.setRoster (rosterForN old (junctionCount s) s.roster)).setDemand
      (demandForN (junctionCount s) s.demand)) k

/-- The roster entry of junction j under the new N (R139). -/
theorem rosterForN_junction (old new : Nat) (r : Roster) (j : Junction) :
    (rosterForN old new r).junctions[j] =
      if new ≤ j.val then .initial .absent
      else if old ≤ j.val then .initial .silent else r.junctions[j] := by
  simp only [rosterForN, Fin.getElem_fin, Vector.getElem_ofFn, ← not_lt, ite_not]

/-- The demand of junction j under the new N (R97). -/
theorem demandForN_junction (new : Nat) (d : Demand) (j : Junction) :
    (demandForN new d).junctions[j] = if new ≤ j.val then .zero else d.junctions[j] := by
  simp only [demandForN, Fin.getElem_fin, Vector.getElem_ofFn, ← not_lt, ite_not]

/-- The levels of link k under the new N (R97). -/
theorem demandForN_level (new : Nat) (d : Demand) (k : LinkIndex) :
    (demandForN new d).levelIn[k] = (if new ≤ k.val + 1 then 0 else d.levelIn[k]) ∧
    (demandForN new d).levelOut[k] = (if new ≤ k.val + 1 then 0 else d.levelOut[k]) := by
  simp only [demandForN, Fin.getElem_fin, Vector.getElem_ofFn, ← not_lt, ite_not, and_self]

/-! ### The corridor resized -/

/-- In HOLD the causes of an event start nothing (R30). -/
theorem settle_held {s : State} (held : s.timebase.mode = .hold) :
    settle s = s.setCauseRaised false := by
  unfold settle
  split
  · simp [arriveCause, held]
  · next h => exact (setCauseRaised_rest (by simpa using h)).symm

/-- An answer and, behind it, notices alone. -/
theorem replied_then_noticed {s v u : State} {t : Taken} {r : List Byte} {bodies : List NoticeBody}
    (answer : Replied s v t .ok r ∧ OnlyPorts s v) (spoke : Spoke v u [] bodies)
    (line : u.line = v.line) :
    Replied s u t .ok r ∧ LineQuiet s u ∧ u.handler.reset = s.handler.reset ∧
      CentreNoticed s u bodies := by
  obtain ⟨replied, -, quiet, ⟨errors, seq, notices⟩, reset⟩ := answer
  obtain ⟨⟨served, taken, other⟩, reply, others⟩ := replied
  have received : ∀ p, receiveQueue u p = receiveQueue v p := by
    intro p
    cases p with
    | line => simp [receiveQueue, line]
    | centre => exact spoke.centreRx
  have queued : ∀ p, queuedReplies u p = queuedReplies v p := by
    intro p
    cases p with
    | line => simp [queuedReplies, line]
    | centre => simp [queuedReplies, spoke.centreReplies]
  have silent : NoticesQueued s v [] := by
    refine ⟨seq, ?_, fun _ => by simp [numbered, notices]⟩
    simpa [numbered, notices] using List.take_prefix _ _
  refine ⟨⟨⟨?_, ?_, ?_⟩, ?_, ?_⟩, ?_, ?_, spoke.centreErrors.trans errors, silent.trans spoke.notices⟩
  · rw [spoke.handler, served]
  · rw [received, taken]
  · rw [received, other]
  · rw [queued, reply]
  · rw [queued, others]
  · simpa only [LineQuiet, CreditsKept, line] using quiet
  · rw [spoke.handler, reset]

/-- The state in which an accepted head write has been answered and its head stands. -/
def headWritten (s : State) (t : Taken) (h : GeometryHead) : State :=
  { answered s t .ok [] with
    store := { s.store with geometry := { s.store.geometry with state := .unchecked, head := h } }
    retention := some .geometryHead }

theorem headWritten_frame (s : State) (t : Taken) (h : GeometryHead) :
    headWritten s t h = { s with
      store := { s.store with geometry := { s.store.geometry with state := .unchecked, head := h } }
      retention := some .geometryHead, line := (answered s t .ok []).line
      centre := (answered s t .ok []).centre, handler := (answered s t .ok []).handler } := by
  apply State.ext <;> simp [headWritten]

theorem exec_writeGeometryHead {s : State} {t : Taken} {h : GeometryHead}
    (admitted : Admits s t (.writeGeometryHead h)) (held : s.timebase.mode = .hold)
    (ranges : GeometryHeadRanges h) (idle : s.retention = none) :
    exec .writeGeometryHead s = .next
      ((changeN s.store.geometry.head.n (headWritten s t h)).setCauseRaised false) := by
  have carries := admitted.geometryHeadWrite
  have accepted : (answerGeometryHeadWrite t h (takeFrame t.port s)).code = .ok := by
    simp [answerGeometryHeadWrite_code, held, ranges, idle]
  have served := serve_accepted (effect := effectGeometryHeadWrite) carries.next carries.kind
    carries.right carries.parsed accepted
  have effect : effectGeometryHeadWrite t h (answered s t .ok []) =
      changeN s.store.geometry.head.n (headWritten s t h) := by
    rw [effectGeometryHeadWrite_eq, answered_store]
    simp [junctionCount, headWritten]
  refine congrArg Host.Outcome.next (served.trans ?_)
  rw [show (answerGeometryHeadWrite t h (takeFrame t.port s)).result = [] from rfl, effect,
    settle_held (by simp [headWritten, held])]

/-- Settles O14: the accepted write, then the change of N on roster, demand, gate and ports. -/
theorem corridorResized : Obligations.CorridorResized := by
  intro s t h rest admitted held ranges idle differs
  refine ⟨_, exec_writeGeometryHead admitted held ranges idle, ?_⟩
  have written := headWritten_frame s t h
  set w := headWritten s t h
  have changes : s.store.geometry.head.n ≠ junctionCount w := differs.symm
  have line : (changeN s.store.geometry.head.n w).line = (answered s t .ok []).line := by
    simp [written]
  have told := (changeN_spoke changes).after_eq (s := answered s t .ok []) rfl rfl rfl
  obtain ⟨replied, quiet, reset, noticed⟩ := replied_then_noticed (answered_replied s t .ok []) told line
  have roster := changeN_roster changes
  have demand := changeN_demand changes
  have gate := changeN_gate changes
  have rosterBefore : w.roster = s.roster := by rw [written]
  have demandBefore : w.demand = s.demand := by rw [written]
  have gateBefore : w.gate = s.gate := by rw [written]
  rw [show junctionCount w = h.n from rfl] at roster demand gate noticed
  rw [rosterBefore] at roster
  rw [demandBefore] at demand
  rw [gateBefore] at gate noticed
  refine ⟨?_, fun j => ?_, fun j => ?_, fun k => ⟨?_, ?_, (gate k).1, (gate k).2⟩, replied, quiet, reset,
    noticed⟩
  · apply State.ext
    case roster => simp [roster, rosterForN]
    case causeRaised => exact rest.symm
    all_goals simp [written]
  · rw [setCauseRaised_roster, roster]
    exact rosterForN_junction _ _ _ j
  · rw [setCauseRaised_demand, demand]
    exact demandForN_junction _ _ j
  · rw [setCauseRaised_demand, demand]
    exact (demandForN_level _ _ k).1
  · rw [setCauseRaised_demand, demand]
    exact (demandForN_level _ _ k).2

end Sys2Proof.Machine
end

section
/-! The arithmetic of a computation (R35 to R42): link speeds and times, ideal offsets, blend and target,
reference starts and bandwidth. -/

namespace Sys2Proof.Machine

open Sys2Proof

/-! ### Link speeds and times (R35, R36) -/

/-- An entry of a table below its length is that entry. -/
theorem nth_fin {α : Type} {n : Nat} (v : Vector α n) (i : Fin n) (d : α) : nth v i.val d = v[i] :=
  dif_pos i.isLt

/-- The link time is 36 × L over the speed, rounded half up (R36). -/
theorem linkTime_bounds (length : Nat) {v : Nat} (pos : 0 < v) :
    2 * (linkTime length v * v) ≤ 72 * length + v ∧
    72 * length ≤ 2 * (linkTime length v * v) + v := by
  have split := Nat.div_add_mod (36 * length + v / 2) v
  have small := Nat.mod_lt (36 * length + v / 2) pos
  rw [mul_comm] at split
  unfold linkTime
  omega

theorem linkLength_eq (x : Snapshot) (k : LinkIndex) :
    x.linkLength k.val = x.positions[k.succ] - x.positions[k.castSucc] := by
  rw [Snapshot.linkLength, ← nth_fin x.positions k.succ 0, ← nth_fin x.positions k.castSucc 0]
  rfl

/-- Each link adds its inbound time once, from junction 0 on (R36). -/
theorem cumIn_succ (x : Snapshot) (i : Nat) : x.cumIn (i + 1) = x.cumIn i + x.timeIn i := by
  simp [Snapshot.cumIn, List.range_succ]

theorem cumOut_last (x : Snapshot) : x.cumOut (x.n - 1) = 0 := by
  simp [Snapshot.cumOut]

/-- Each link adds its outbound time once, up to junction N-1 (R36). -/
theorem cumOut_step (x : Snapshot) {i : Nat} (h : i + 1 < x.n) :
    x.cumOut i = x.timeOut i + x.cumOut (i + 1) := by
  obtain ⟨m, hm⟩ : ∃ m, x.n - 1 - i = m + 1 := ⟨x.n - 2 - i, by omega⟩
  have rest : x.n - 1 - (i + 1) = m := by omega
  have shift : ((fun k => x.timeOut (i + k)) ∘ Nat.succ) = fun k => x.timeOut (i + 1 + k) := by
    funext k
    exact congrArg x.timeOut (by simp only [Nat.succ_eq_add_one]; omega)
  rw [Snapshot.cumOut, Snapshot.cumOut, hm, rest, List.range_succ_eq_map, List.map_cons,
    List.map_map, List.sum_cons, shift, Nat.add_zero]

/-- Settles O22: speeds by their factors, times by `linkTime_bounds`, and the sums link by link. -/
theorem linkSpeedsAndTimes : Obligations.LinkSpeedsAndTimes := by
  refine ⟨fun v => ⟨rfl, rfl, rfl, rfl⟩, fun length v pos => ⟨rfl, linkTime_bounds length pos⟩,
    fun x k => ⟨linkLength_eq x k, ?_, ?_⟩, fun x => ⟨rfl, cumOut_last x, cumIn_succ x, fun i =>
      cumOut_step x⟩⟩
  · rw [Snapshot.timeIn, nth_fin]
  · rw [Snapshot.timeOut, nth_fin]

/-! ### Ideal offsets, blend and target (R37 to R40) -/

/-- A remainder in 0..C-1 as an integer. -/
theorem modC_cast (a : Int) {c : Nat} (pos : 0 < c) : (modC a c : Int) = a % c :=
  Int.toNat_of_nonneg (Int.emod_nonneg a (by omega))

theorem modC_lt (a : Int) {c : Nat} (pos : 0 < c) : modC a c < c := by
  have := Int.emod_lt_of_pos a (Int.natCast_pos.2 pos)
  rw [← modC_cast a pos] at this
  exact_mod_cast this

/-- The circular difference leads from the inbound to the outbound offset, the shorter way round, and
forward at the half (R38). -/
theorem circularDifference_spec {c : Nat} (pos : 0 < c) (idealIn idealOut : Nat) :
    (c : Int) ∣ (idealOut : Int) - idealIn - circularDifference c idealIn idealOut ∧
    -(c : Int) < 2 * circularDifference c idealIn idealOut ∧
    2 * circularDifference c idealIn idealOut ≤ c := by
  have cast := modC_cast ((idealOut : Int) - idealIn) pos
  have lt := modC_lt ((idealOut : Int) - idealIn) pos
  have whole : (c : Int) ∣ (idealOut : Int) - idealIn - modC ((idealOut : Int) - idealIn) c := by
    rw [cast]
    exact Int.dvd_self_sub_emod
  unfold circularDifference
  dsimp only
  generalize modC ((idealOut : Int) - idealIn) c = r at *
  split
  · refine ⟨?_, by omega, by omega⟩
    rw [← sub_add]
    exact dvd_add whole dvd_rfl
  · exact ⟨whole, by omega, by omega⟩

/-- The blend of a difference that is not negative (R39). -/
theorem blend_nonneg {delta : Int} {w : Nat} (h : 0 ≤ delta) (part : w ≤ 100) :
    blend delta w = (delta * w + 50) / 100 ∧ 0 ≤ blend delta w ∧ blend delta w ≤ delta := by
  obtain ⟨d, rfl⟩ := Int.eq_ofNat_of_zero_le h
  have most : d * w ≤ d * 100 := Nat.mul_le_mul_left d part
  have value : blend (d : Int) w = (((d * w + 50) / 100 : Nat) : Int) := by simp [blend]
  refine ⟨?_, ?_, ?_⟩
  · rw [value]; push_cast; rfl
  · omega
  · omega

/-- The blend of a negative difference is that of its size, with its sign (R39). -/
theorem blend_neg {delta : Int} {w : Nat} (h : delta < 0) (part : w ≤ 100) :
    blend delta w = -((-delta * w + 50) / 100) ∧ delta ≤ blend delta w ∧ blend delta w ≤ 0 := by
  have mirrored : blend delta w = -blend (-delta) w := by
    rw [blend, blend, if_neg (by omega), if_pos (by omega)]
  obtain ⟨value, low, high⟩ := blend_nonneg (delta := -delta) (by omega) part
  rw [mirrored]
  exact ⟨by rw [value], by omega, by omega⟩

theorem blend_zero (delta : Int) : blend delta 0 = 0 := by
  simp [blend]

theorem blend_hundred (delta : Int) : blend delta 100 = delta := by
  unfold blend
  split <;> omega

/-- The target is the inbound ideal moved by P, the blend and the trim, in the cycle (R40). -/
theorem target_cast (x : Snapshot) (j : Junction) (pos : 0 < x.c) :
    (x.target j.val : Int) = (x.p + x.idealIn j.val + x.blendAmount j.val + x.trims[j]) % x.c := by
  rw [Snapshot.target, modC_cast _ pos, nth_fin]

/-- Settles O23: the difference and the blend by their lemmas, and the target at both ends of the bias. -/
theorem targetsLieInTheCycle : Obligations.TargetsLieInTheCycle := by
  intro x j pos bias delta q
  have target := target_cast x j pos
  obtain ⟨whole, low, high⟩ := circularDifference_spec pos (x.idealIn j.val) (x.idealOut j.val)
  refine ⟨modC_cast _ pos, modC_cast _ pos, ?_, ?_, whole, low, high,
    fun h => blend_nonneg h (Nat.sub_le _ _), fun h => blend_neg h (Nat.sub_le _ _), target,
    modC_lt _ pos, fun atHundred => ?_, fun atZero => ?_⟩
  · simp [Snapshot.idealIn, Snapshot.fromAnchorIn, modC]
  · simp [Snapshot.idealOut, Snapshot.fromAnchorOut, modC]
  · have still : x.blendAmount j.val = 0 := by rw [Snapshot.blendAmount, atHundred]; exact blend_zero _
    rw [target, still, add_zero]
  · have full : x.blendAmount j.val = delta := by rw [Snapshot.blendAmount, atZero]; exact blend_hundred _
    rw [target, full]
    refine Int.modEq_iff_dvd.2 ?_
    convert whole using 1
    ring

/-! ### Reference starts and bandwidth (R41, R42) -/

/-- The time left in a window is what its length exceeds the time since its start by (R42). -/
theorem windowLeft_spec {c : Nat} (gEff start t : Nat) (pos : 0 < c) :
    let u : Int := ((t : Int) - start) % c
    (u < gEff → (windowLeft c gEff start t : Int) = gEff - u) ∧
    (gEff ≤ u → windowLeft c gEff start t = 0) := by
  intro u
  have cast : (modC ((t : Int) - start) c : Int) = u := modC_cast _ pos
  unfold windowLeft
  omega

theorem windowLeft_le (c gEff start t : Nat) : windowLeft c gEff start t ≤ gEff := Nat.sub_le _ _

/-- At its start a window is left whole. -/
theorem windowLeft_start (c gEff start : Nat) : windowLeft c gEff start start = gEff := by
  simp [windowLeft, modC]

/-- The least of a list that is not empty is one of its values. -/
theorem leastOf_mem (c : Nat) {l : List Nat} (h : l ≠ []) : leastOf c l ∈ l := by
  induction l with
  | nil => exact absurd rfl h
  | cons v rest ih =>
    cases rest with
    | nil => exact List.mem_singleton_self v
    | cons w rest =>
      rw [leastOf]
      rcases min_choice v (leastOf c (w :: rest)) with here | there
      · rw [here]; exact List.mem_cons_self
      · rw [there]; exact List.mem_cons_of_mem _ (ih (List.cons_ne_nil w rest))
      · exact List.cons_ne_nil w rest

theorem leastOf_le (c : Nat) {l : List Nat} {v : Nat} (h : v ∈ l) : leastOf c l ≤ v := by
  induction l with
  | nil => cases h
  | cons w rest ih =>
    cases rest with
    | nil => exact (List.mem_singleton.1 h).ge
    | cons x rest =>
      rw [leastOf]
      · rcases List.mem_cons.1 h with rfl | later
        · exact min_le_left _ _
        · exact (min_le_right _ _).trans (ih later)
      · exact List.cons_ne_nil x rest

/-- The greatest of a list that is not empty is one of its values. -/
theorem greatestOf_mem {l : List Nat} (h : l ≠ []) : greatestOf l ∈ l := by
  induction l with
  | nil => exact absurd rfl h
  | cons v rest ih =>
    cases rest with
    | nil => simp [greatestOf]
    | cons w rest =>
      rw [greatestOf]
      rcases max_choice v (greatestOf (w :: rest)) with here | there
      · rw [here]; exact List.mem_cons_self
      · rw [there]; exact List.mem_cons_of_mem _ (ih (List.cons_ne_nil w rest))

theorem le_greatestOf {l : List Nat} {v : Nat} (h : v ∈ l) : v ≤ greatestOf l := by
  induction l with
  | nil => cases h
  | cons w rest ih =>
    rcases List.mem_cons.1 h with rfl | there
    · exact le_max_left _ _
    · exact (ih there).trans (le_max_right _ _)

/-- The band at reference time t: the least time left in any of the windows (R42). -/
def bandAt (c : Nat) (windows : List (Nat × Nat)) (t : Nat) : Nat :=
  leastOf c (windows.map fun w => windowLeft c w.2 w.1 t)

section
variable {c : Nat} {windows : List (Nat × Nat)}

theorem bandAt_le {w : Nat × Nat} (h : w ∈ windows) (t : Nat) :
    bandAt c windows t ≤ windowLeft c w.2 w.1 t :=
  leastOf_le c (List.mem_map_of_mem (f := fun w => windowLeft c w.2 w.1 t) h)

theorem bandAt_attained (h : windows ≠ []) (t : Nat) :
    ∃ w ∈ windows, windowLeft c w.2 w.1 t = bandAt c windows t :=
  List.mem_map.1 (leastOf_mem c (List.map_eq_nil_iff.not.2 h))

/-- The bandwidth is the greatest band over the starts (R42). -/
theorem bandwidth_eq (h : windows ≠ []) :
    bandwidth c windows = greatestOf (windows.map fun w => bandAt c windows w.1) := by
  simp [bandwidth, bandAt, h]

theorem bandAt_le_bandwidth {w : Nat × Nat} (h : w ∈ windows) :
    bandAt c windows w.1 ≤ bandwidth c windows := by
  rw [bandwidth_eq (List.ne_nil_of_mem h)]
  exact le_greatestOf (List.mem_map_of_mem (f := fun w => bandAt c windows w.1) h)

theorem bandwidth_attained (h : windows ≠ []) :
    ∃ w ∈ windows, bandAt c windows w.1 = bandwidth c windows := by
  rw [bandwidth_eq h]
  exact List.mem_map.1 (greatestOf_mem (List.map_eq_nil_iff.not.2 h))

/-- The bandwidth is no wider than any window. -/
theorem bandwidth_le {w : Nat × Nat} (h : w ∈ windows) : bandwidth c windows ≤ w.2 := by
  obtain ⟨v, -, hv⟩ := bandwidth_attained (c := c) (List.ne_nil_of_mem h)
  rw [← hv]
  exact (bandAt_le h v.1).trans (windowLeft_le c w.2 w.1 v.1)

/-- A window has no less left at a start that lies between its own start and time t than at t. -/
theorem windowLeft_at_start (gEff : Nat) {start latest t : Nat} (pos : 0 < c)
    (later : modC ((t : Int) - latest) c ≤ modC ((t : Int) - start) c) :
    windowLeft c gEff start t ≤ windowLeft c gEff start latest := by
  have since : modC ((latest : Int) - start) c ≤ modC ((t : Int) - start) c := by
    have apart : (latest : Int) - start = ((t : Int) - start) - ((t : Int) - latest) := by ring
    have difference : (modC ((latest : Int) - start) c : Int) =
        ((modC ((t : Int) - start) c : Int) - modC ((t : Int) - latest) c) % c := by
      rw [modC_cast _ pos, modC_cast _ pos, modC_cast _ pos, ← Int.sub_emod, apart]
    have lt := modC_lt ((t : Int) - start) pos
    rw [Int.emod_eq_of_lt (by omega) (by omega)] at difference
    omega
  unfold windowLeft
  omega

/-- No time has a wider band than the start that lies last before it (R42). -/
theorem bandAt_le_some_start (pos : 0 < c) (h : windows ≠ []) (t : Nat) :
    ∃ v ∈ windows, ∀ w ∈ windows, windowLeft c w.2 w.1 t ≤ windowLeft c w.2 w.1 v.1 := by
  obtain ⟨v, hv, latest⟩ := Finset.exists_min_image windows.toFinset
    (fun w => modC ((t : Int) - w.1) c) (List.toFinset_nonempty_iff windows |>.2 h)
  exact ⟨v, List.mem_toFinset.1 hv, fun w hw =>
    windowLeft_at_start w.2 pos (latest w (List.mem_toFinset.2 hw))⟩

end

/-- Settles O24: the starts by their definition, the bandwidth by the band at each start. -/
theorem bandwidthIsTheWidestBand : Obligations.BandwidthIsTheWidestBand := by
  refine ⟨fun x i pos => ⟨modC_cast _ pos, modC_cast _ pos⟩, fun c windows pos ranges => ?_,
    fun c gEff start t => windowLeft_spec gEff start t, fun x generation => ?_⟩
  · refine ⟨?_, ?_, ?_, fun w => bandwidth_le, fun constrained => ?_,
      fun t _ constrained => ?_⟩
    · rintro rfl
      rfl
    · rintro w rfl
      simp [bandwidth, greatestOf, leastOf, windowLeft_start]
    · cases windows with
      | nil => exact le_rfl
      | cons w rest => exact (bandwidth_le List.mem_cons_self).trans (ranges w List.mem_cons_self).2
    · obtain ⟨v, hv, widest⟩ := bandwidth_attained (c := c) constrained
      exact ⟨v, hv, fun w hw => widest ▸ bandAt_le hw v.1⟩
    · obtain ⟨v, hv, wider⟩ := bandAt_le_some_start pos constrained t
      obtain ⟨w, hw, least⟩ := bandAt_attained (c := c) constrained v.1
      exact ⟨w, hw, (wider w hw).trans (least.le.trans (bandAt_le_bandwidth hv))⟩
  · exact ⟨rfl, rfl, rfl, rfl, rfl, rfl, rfl, by simp [computeSet], fun i hi => by
      simp [computeSet, hi]⟩

end Sys2Proof.Machine
end

section
/-! The queue of waiting commands and the recompute causes: no command changes the queue, and the causes of
every event arrive with it (R28, R30). -/

namespace Sys2Proof.Machine

open Sys2Proof

/-- The queue of waiting commands stays, and no recompute cause is left waiting where none waited. -/
def QueueAndRestKept (s u : State) : Prop := u.pending = s.pending ∧ (AtRest s → AtRest u)

section
variable {s u v : State}

theorem QueueAndRestKept.of_eq (queue : u.pending = s.pending) (cause : u.causeRaised = s.causeRaised) :
    QueueAndRestKept s u := ⟨queue, cause.trans⟩

theorem QueueAndRestKept.then_eq (h : QueueAndRestKept s v) (queue : u.pending = v.pending)
    (cause : u.causeRaised = v.causeRaised) : QueueAndRestKept s u :=
  ⟨queue.trans h.1, fun rest => cause.trans (h.2 rest)⟩

/-- An event whose causes arrive at its end leaves none waiting (R28). -/
theorem settle_queueAndRest (queue : v.pending = s.pending) : QueueAndRestKept s (settle v) :=
  ⟨by simpa using queue, fun _ => settle_causeRaised v⟩

theorem whenRunning_queueAndRest {act : State → State} (h : QueueAndRestKept s (act s)) :
    QueueAndRestKept s (whenRunning act s) := by
  unfold whenRunning
  split
  · exact .of_eq rfl rfl
  · exact h

theorem serve_queueAndRest {α : Type} {k : RequestKind} {parse : List Byte → Option α}
    {answer : Taken → α → State → Answer} {effect : Taken → α → State → State}
    (queue : ∀ t v body, (effect t body v).pending = v.pending) :
    QueueAndRestKept s (serve k parse answer effect s) := by
  obtain e | ⟨t, _, _, ⟨c, _, e⟩ | ⟨body, r, _, _, _, _, e⟩⟩ :=
    serve_cases (k := k) (parse := parse) (answer := answer) (effect := effect) (s := s) <;> rw [e]
  · exact .of_eq rfl rfl
  · exact .of_eq (by simp) (by simp)
  · exact settle_queueAndRest (by simp [queue])

theorem serveUnknown_queueAndRest : QueueAndRestKept s (serveUnknown s) := by
  unfold serveUnknown
  repeat' split
  all_goals exact .of_eq (by simp) (by simp)

end

/-! ### The effects of the requests -/

section
variable (t : Taken) (v : State)

theorem effectReport_pending (b : ReportBody) : (effectReport t b v).pending = v.pending := by
  unfold effectReport
  split <;> simp

theorem effectCall_pending (b : CallBody) : (effectCall t b v).pending = v.pending := by
  unfold effectCall
  split <;> simp

theorem effectCancel_pending (b : CancelBody) : (effectCancel t b v).pending = v.pending := by
  unfold effectCancel
  repeat' split
  all_goals simp

theorem effectStatus_pending (b : StatusBody) : (effectStatus t b v).pending = v.pending := by
  unfold effectStatus
  split <;> simp [clearCounters]

theorem startRetention_pending (record : RetentionRecord) :
    (startRetention record v).pending = v.pending := rfl

theorem retainPlan_pending (p : Nat) (record : Fin 24 → RetentionRecord) :
    (retainPlan p record v).pending = v.pending := by
  unfold retainPlan
  split <;> rfl

theorem effectPlanHeadWrite_pending (b : PlanHeadWrite) :
    (effectPlanHeadWrite t b v).pending = v.pending := by
  simp [effectPlanHeadWrite, retainPlan_pending]

theorem effectPlanGroupWrite_pending (b : PlanGroupWrite) :
    (effectPlanGroupWrite t b v).pending = v.pending := by
  simp [effectPlanGroupWrite, retainPlan_pending]

theorem effectErase_pending (p : Nat) : (effectErase t p v).pending = v.pending := by
  simp [effectErase, retainPlan_pending]

theorem effectGeometryHeadWrite_pending (h : GeometryHead) :
    (effectGeometryHeadWrite t h v).pending = v.pending := by
  simp [effectGeometryHeadWrite, startRetention_pending]

theorem effectPlanCheck_pending (p : Nat) : (effectPlanCheck t p v).pending = v.pending := by
  unfold effectPlanCheck
  dsimp only
  split <;> simp [retainPlan_pending]

theorem effectGeometryCheck_pending (b : Unit) : (effectGeometryCheck t b v).pending = v.pending := by
  unfold effectGeometryCheck
  dsimp only
  split <;> simp [startRetention_pending]

theorem effectSelectionWrite_pending (b : SelectionWrite) :
    (effectSelectionWrite t b v).pending = v.pending := by
  unfold effectSelectionWrite
  split <;> simp [startRetention_pending]

theorem effectPinPlan_pending (p : Nat) : (effectPinPlan t p v).pending = v.pending := by
  unfold effectPinPlan
  split <;> simp

theorem effectPinBias_pending (n : Nat) : (effectPinBias t n v).pending = v.pending := by
  unfold effectPinBias
  split <;> simp

end

/-! ### The events -/

section
variable (s : State)

theorem startDecision_queueAndRest : QueueAndRestKept s (startDecision s) := by
  unfold startDecision
  dsimp only
  split
  · exact settle_queueAndRest (by simp)
  · exact .of_eq rfl rfl

/-- A restarted unit has its queue, and no cause waits in it (R170). -/
theorem startDecision_restart_queueAndRest (pins : Straps) :
    QueueAndRestKept s (startDecision (restart (s.setStraps pins))) := by
  obtain ⟨queue, rest⟩ := startDecision_queueAndRest (restart (s.setStraps pins))
  exact ⟨queue, fun _ => rest rfl⟩

theorem resetUnitNow_queueAndRest (pins : Straps) : QueueAndRestKept s (resetUnitNow pins s) := by
  unfold resetUnitNow
  repeat' split
  · exact .of_eq rfl rfl
  · exact startDecision_restart_queueAndRest s pins
  · exact startDecision_restart_queueAndRest s s.straps

theorem cycleBoundary_queueAndRest : QueueAndRestKept s (cycleBoundary s) := by
  unfold cycleBoundary
  split
  · exact settle_queueAndRest (by simp)
  · exact .of_eq rfl rfl

theorem localZero_queueAndRest (j : Junction) : QueueAndRestKept s (localZero j s) := by
  unfold localZero
  split
  · exact settle_queueAndRest (by simp)
  · exact .of_eq rfl rfl

theorem windowClose_queueAndRest (j : Junction) : QueueAndRestKept s (windowClose j s) := by
  unfold windowClose
  split
  · exact settle_queueAndRest (by simp)
  · exact .of_eq rfl rfl

theorem beatNow_queueAndRest : QueueAndRestKept s (beatNow s) := by
  unfold beatNow
  split <;> exact .of_eq (by simp) (by simp)

theorem selectorEvaluation_queueAndRest : QueueAndRestKept s (selectorEvaluation s) := by
  unfold selectorEvaluation
  split
  · exact settle_queueAndRest (by simp)
  · exact .of_eq rfl rfl

theorem pinLapse_queueAndRest : QueueAndRestKept s (pinLapse s) := by
  unfold pinLapse
  split
  · exact settle_queueAndRest (by simp)
  · exact .of_eq rfl rfl

theorem periodEnd_queueAndRest : QueueAndRestKept s (periodEnd s) := by
  unfold periodEnd
  split
  · exact settle_queueAndRest (by simp)
  · exact .of_eq rfl rfl

theorem expireEntry_queueAndRest (j : Junction) (tag : Nat) :
    QueueAndRestKept s (expireEntry j tag s) := by
  unfold expireEntry
  repeat' split
  all_goals exact .of_eq (by simp) (by simp)

theorem completeRetention_queueAndRest : QueueAndRestKept s (completeRetention s) := by
  unfold completeRetention
  split <;> exact .of_eq (by simp) (by simp)

/-- The causes of a completion arrive before the next computation starts (R44). -/
theorem computationDone_queueAndRest : QueueAndRestKept s (computationDone s) := by
  unfold computationDone
  split
  · exact .of_eq rfl rfl
  · next x _ =>
    have arrived : QueueAndRestKept s (settle (if discards s x then s else publish x s)) :=
      settle_queueAndRest (by split <;> simp)
    unfold completeComputation
    dsimp only
    generalize settle (if discards s x then s else publish x s) = v at arrived ⊢
    split <;> exact arrived.then_eq (by simp) (by simp)

theorem tick_queueAndRest : QueueAndRestKept s (tick s) := by
  unfold tick
  repeat' split
  all_goals exact .of_eq (by simp [tickRun, tickClocks]) (by simp [tickRun, tickClocks])

theorem lineBusy_queueAndRest : QueueAndRestKept s (lineBusy s) := by
  unfold lineBusy
  split <;> exact .of_eq (by simp) (by simp)

theorem lineFree_queueAndRest (chars : List Byte) : QueueAndRestKept s (lineFree chars s) := by
  unfold lineFree gapFault
  dsimp only
  repeat' split
  all_goals exact .of_eq (by simp) (by simp)

theorem lineFault_queueAndRest : QueueAndRestKept s (lineFault s) := by
  unfold lineFault
  split <;> exact .of_eq (by simp) (by simp)

theorem frameComplete_queueAndRest : QueueAndRestKept s (frameComplete s) := by
  unfold frameComplete
  split <;> exact .of_eq (by simp) (by simp)

theorem arbitrationLoss_queueAndRest : QueueAndRestKept s (arbitrationLoss s) := by
  unfold arbitrationLoss
  dsimp only
  repeat' split
  all_goals exact .of_eq (by simp) (by simp)

theorem lineReceive_queueAndRest (chars : List Byte) : QueueAndRestKept s (lineReceive chars s) := by
  unfold lineReceive placeLineFrame lineRxFault
  repeat' split
  all_goals exact .of_eq (by simp) (by simp)

theorem centreReceive_queueAndRest (chars : List Byte) :
    QueueAndRestKept s (centreReceive chars s) := by
  unfold centreReceive placeCentreFrame centreRxFault
  repeat' split
  all_goals exact .of_eq (by simp) (by simp)

theorem lineDiscard_queueAndRest (f : RxFault) (chars : List Byte) :
    QueueAndRestKept s (lineDiscard f chars s) := by
  unfold lineDiscard lineRxFault
  split <;> exact .of_eq (by simp) (by simp)

theorem centreDiscard_queueAndRest (f : RxFault) (chars : List Byte) :
    QueueAndRestKept s (centreDiscard f chars s) := by
  unfold centreDiscard centreRxFault
  split <;> exact .of_eq (by simp) (by simp)

theorem centreComplete_queueAndRest : QueueAndRestKept s (centreComplete s) := by
  unfold centreComplete
  split <;> exact .of_eq (by simp) (by simp)

end

/-- Settles O2, command by command. -/
theorem execLeavesQueueAndRest : Obligations.ExecLeavesQueueAndRest := by
  intro c s u h
  cases c with
  | report =>
    obtain rfl := next_inj h
    exact serve_queueAndRest effectReport_pending
  | priorityCall =>
    obtain rfl := next_inj h
    exact serve_queueAndRest effectCall_pending
  | priorityCancel =>
    obtain rfl := next_inj h
    exact serve_queueAndRest effectCancel_pending
  | readStatus =>
    obtain rfl := next_inj h
    exact serve_queueAndRest effectStatus_pending
  | checkPlan =>
    obtain rfl := next_inj h
    exact serve_queueAndRest effectPlanCheck_pending
  | checkGeometry =>
    obtain rfl := next_inj h
    exact serve_queueAndRest effectGeometryCheck_pending
  | writeSelection =>
    obtain rfl := next_inj h
    exact serve_queueAndRest effectSelectionWrite_pending
  | pinPlan =>
    obtain rfl := next_inj h
    exact serve_queueAndRest effectPinPlan_pending
  | pinBias =>
    obtain rfl := next_inj h
    exact serve_queueAndRest effectPinBias_pending
  | writePlanHead =>
    obtain rfl := next_inj h
    exact serve_queueAndRest effectPlanHeadWrite_pending
  | writePlanGroup =>
    obtain rfl := next_inj h
    exact serve_queueAndRest effectPlanGroupWrite_pending
  | erasePlan =>
    obtain rfl := next_inj h
    exact serve_queueAndRest effectErase_pending
  | writeGeometryHead =>
    obtain rfl := next_inj h
    exact serve_queueAndRest effectGeometryHeadWrite_pending
  | readJunction | readBand | readPlanHead | readPlanGroup | readGeometryHead | readGeometryGroup
  | readSelection | writeGeometryGroup | resetUnit =>
    obtain rfl := next_inj h
    exact serve_queueAndRest fun _ _ _ => rfl
  | releaseHold =>
    obtain rfl := next_inj h
    exact serve_queueAndRest fun _ _ _ => by simp [effectRelease]
  | enterHold =>
    obtain rfl := next_inj h
    exact serve_queueAndRest fun _ _ _ => by simp [effectEnterHold]
  | resetEngine =>
    obtain rfl := next_inj h
    exact serve_queueAndRest fun _ _ _ => by simp [effectResetEngine]
  | unknownKind =>
    obtain rfl := next_inj h
    exact serveUnknown_queueAndRest
  | resetNAssert =>
    obtain rfl := next_inj h
    exact QueueAndRestKept.of_eq rfl rfl
  | hardwareReset pins =>
    obtain rfl := next_inj h
    exact startDecision_restart_queueAndRest s pins
  | localZero j =>
    obtain ⟨i, rfl⟩ := next_of_junction (act := localZero) h
    exact whenRunning_queueAndRest (localZero_queueAndRest s i)
  | windowClose j =>
    obtain ⟨i, rfl⟩ := next_of_junction (act := windowClose) h
    exact whenRunning_queueAndRest (windowClose_queueAndRest s i)
  | priorityExpiry j tag =>
    obtain ⟨i, rfl⟩ := next_of_junction (act := fun j => expireEntry j tag) h
    exact whenRunning_queueAndRest (expireEntry_queueAndRest s i tag)
  | resetUnitTakesEffect pins =>
    obtain rfl := next_inj h
    exact whenRunning_queueAndRest (resetUnitNow_queueAndRest s pins)
  | cycleBoundary =>
    obtain rfl := next_inj h
    exact whenRunning_queueAndRest (cycleBoundary_queueAndRest s)
  | evaluation =>
    obtain rfl := next_inj h
    exact whenRunning_queueAndRest (selectorEvaluation_queueAndRest s)
  | beatDue =>
    obtain rfl := next_inj h
    exact whenRunning_queueAndRest (beatNow_queueAndRest s)
  | pinLapse =>
    obtain rfl := next_inj h
    exact whenRunning_queueAndRest (pinLapse_queueAndRest s)
  | periodEnd =>
    obtain rfl := next_inj h
    exact whenRunning_queueAndRest (periodEnd_queueAndRest s)
  | retentionComplete =>
    obtain rfl := next_inj h
    exact whenRunning_queueAndRest (completeRetention_queueAndRest s)
  | computationComplete =>
    obtain rfl := next_inj h
    exact whenRunning_queueAndRest (computationDone_queueAndRest s)
  | decisecondTick =>
    obtain rfl := next_inj h
    exact whenRunning_queueAndRest (tick_queueAndRest s)
  | lineBusy =>
    obtain rfl := next_inj h
    exact whenRunning_queueAndRest (lineBusy_queueAndRest s)
  | lineFree chars =>
    obtain rfl := next_inj h
    exact whenRunning_queueAndRest (lineFree_queueAndRest s chars)
  | lineFault =>
    obtain rfl := next_inj h
    exact whenRunning_queueAndRest (lineFault_queueAndRest s)
  | frameComplete =>
    obtain rfl := next_inj h
    exact whenRunning_queueAndRest (frameComplete_queueAndRest s)
  | arbitrationLoss =>
    obtain rfl := next_inj h
    exact whenRunning_queueAndRest (arbitrationLoss_queueAndRest s)
  | lineFrameReceived chars =>
    obtain rfl := next_inj h
    exact whenRunning_queueAndRest (lineReceive_queueAndRest s chars)
  | centreFrameReceived chars =>
    obtain rfl := next_inj h
    exact whenRunning_queueAndRest (centreReceive_queueAndRest s chars)
  | centreFrameComplete =>
    obtain rfl := next_inj h
    exact whenRunning_queueAndRest (centreComplete_queueAndRest s)
  | lineFrameDiscarded f chars =>
    obtain rfl := next_inj h
    exact whenRunning_queueAndRest (lineDiscard_queueAndRest s f chars)
  | centreFrameDiscarded f chars =>
    obtain rfl := next_inj h
    exact whenRunning_queueAndRest (centreDiscard_queueAndRest s f chars)

end Sys2Proof.Machine
end

section
/-! The reads of the unit's state, and requests that are accepted or that the centre alone may make (R50,
R166 to R168). -/

namespace Sys2Proof.Machine

open Sys2Proof

/-! ### Requests that are accepted, and who makes them -/

section
variable {α : Type} {s : State} {t : Taken} {k : RequestKind} {parse : List Byte → Option α}
  {body : α} {answer : Taken → α → State → Answer} {effect : Taken → α → State → State} {c : Instr}

/-- A request that its block accepts: the answer, the effect on the answered state, and the arrival of its
causes. -/
theorem Carries.accepted {result : List Byte} (h : Carries s t k parse body)
    (he : exec c s = .next (serve k parse answer effect s))
    (ha : (answer t body (takeFrame t.port s)).code = .ok)
    (hr : (answer t body (takeFrame t.port s)).result = result) :
    exec c s = .next (settle (effect t body (answered s t .ok result))) := by
  rw [he, serve_accepted h.next h.kind h.right h.parsed ha, hr]

/-- A request that no station on the line may make comes from the centre (R166). -/
theorem Carries.port_centre (h : Carries s t k parse body)
    (stations : ∀ j, maySend k (.junction j) = false) (unknown : maySend k .unknown = false) :
    t.port = .centre := by
  obtain ⟨-, -, sender⟩ := (nextFrame_iff s t).1 h.next
  have sends : maySend k t.sender = true := (Bool.and_eq_true_iff.1 h.right).1
  cases port : t.port with
  | centre => rfl
  | line =>
    rw [sender, port, senderOf] at sends
    cases mapped : junctionOf s (addressOf t.frame.src) <;> simp [mapped, stations, unknown] at sends

end

section
variable {s : State} {t : Taken}

theorem Admits.statusRead {b : StatusBody} (h : Admits s t (.readStatus b)) :
    Carries s t .readStatus parseStatus b :=
  h.carries rfl (fun _ => rfl) fun _ _ => Request.readStatus.inj

theorem Admits.junctionRead {b : IndexedRead} (h : Admits s t (.readJunction b)) :
    Carries s t .readJunction parseIndexed b :=
  h.carries rfl (fun _ => rfl) fun _ _ => Request.readJunction.inj

theorem Admits.bandRead {page : Nat} (h : Admits s t (.readBand page)) :
    Carries s t .readBand parseOne page :=
  h.carries rfl (fun _ => rfl) fun _ _ => Request.readBand.inj

theorem Admits.holdRelease {n : Nat} (h : Admits s t (.releaseHold n)) :
    Carries s t .releaseHold parseOne n :=
  h.carries rfl (fun _ => rfl) fun _ _ => Request.releaseHold.inj

theorem Admits.holdEntry (h : Admits s t .enterHold) : Carries s t .enterHold parseNone () :=
  h.carries (make := fun _ : Unit => .enterHold) rfl (fun _ => rfl) fun _ _ _ => rfl

theorem Admits.engineReset (h : Admits s t .resetEngine) : Carries s t .resetEngine parseNone () :=
  h.carries (make := fun _ : Unit => .resetEngine) rfl (fun _ => rfl) fun _ _ _ => rfl

end

/-! ### READ_STATUS (R167) -/

/-- The counters are cleared behind the reply, which stays as it was queued. -/
theorem clearCounters_replied {s v : State} {t : Taken} {c : ReplyCode} {r : List Byte}
    (h : Replied s v t c r) : Replied s (clearCounters v) t c r := by
  obtain ⟨port, frame, sender⟩ := t
  cases port <;> exact h

section
variable {s : State} {t : Taken} {b : StatusBody}

/-- A page beyond the last is refused, and no counter is cleared (log 37). -/
theorem readStatus_refused (h : Admits s t (.readStatus b))
    (beyond : pageOf (statusResult (takeFrame t.port s)) b.page = none) :
    RefusedWith .readStatus s t .badArgument :=
  h.statusRead.refused (answer := answerStatus) rfl (by simp [answerStatus, pageAnswer, beyond, refuse])
    (by decide)

theorem readStatus_accepted {chars : List Byte} (h : Admits s t (.readStatus b)) (rest : AtRest s)
    (page : pageOf (statusResult (takeFrame t.port s)) b.page = some chars) :
    exec .readStatus s = .next (effectStatus t b (answered s t .ok chars)) := by
  have answer : answerStatus t b (takeFrame t.port s) = { code := .ok, result := chars } := by
    simp [answerStatus, pageAnswer, page]
  rw [h.statusRead.accepted (answer := answerStatus) rfl (by rw [answer]) (by rw [answer]), settle_rest]
  unfold effectStatus
  split <;> simpa [clearCounters, AtRest] using rest

end

/-! ### READ_JUNCTION and READ_BAND (R50, R168) -/

/-- A junction's page is read off blocks that the taking of a frame leaves. -/
theorem junctionResult_takeFrame (s : State) (p : Port) (j : Junction) :
    junctionResult (takeFrame p s) j = junctionResult s j := by
  simp [junctionResult, junctionCount, gatedNow, targetRead]

theorem bandResult_takeFrame (s : State) (p : Port) : bandResult (takeFrame p s) = bandResult s := by
  simp [bandResult]

/-- Settles O9: the counters are cleared behind the reply, and the two other reads change nothing. -/
theorem unitReadsAnswered : Obligations.UnitReadsAnswered := by
  refine ⟨fun s t b rest h => ⟨readStatus_refused h, fun chars page =>
    ⟨_, readStatus_accepted h rest page, ?_⟩⟩, fun s t rest => ⟨fun b h => ⟨fun high => ?_,
      fun j named => ?_⟩, fun page h => ?_⟩⟩
  · obtain ⟨replied, only⟩ := answered_replied s t .ok chars
    cases clear : b.clear with
    | false =>
      rw [show effectStatus t b (answered s t .ok chars) = answered s t .ok chars by
        simp [effectStatus, clear]]
      exact ⟨replied, fun _ => only, nofun⟩
    | true =>
      rw [show effectStatus t b (answered s t .ok chars) = clearCounters (answered s t .ok chars) by
        simp [effectStatus, clear]]
      obtain ⟨frame, ⟨state, -, -, -, beats, steers, -⟩, ⟨-, seq, notices⟩, -⟩ := only
      refine ⟨clearCounters_replied replied, nofun, fun _ => ⟨?_, rfl, rfl, rfl, rfl, state,
        beats, steers, seq, notices⟩⟩
      apply State.ext <;> simp [clearCounters]
  · exact h.junctionRead.refused (answer := answerJunction) rfl
      (by simp [answerJunction, junctionAt_none high, refuse]) (by decide)
  · refine h.junctionRead.readServed rest rfl (fun _ => ?_) (fun out => absurd trivial out)
    simp [answerJunction, named, junctionResult_takeFrame]
  · refine h.bandRead.readServed rest rfl (fun _ => ?_) (fun out => absurd trivial out)
    rw [answerBand, bandResult_takeFrame, bandResult]
    cases s.engine.active <;> rfl

end Sys2Proof.Machine
end

section
/-! RELEASE_HOLD, the completion of a computation, and the plan switch at a cycle boundary (R43, R44, R53,
R59). -/

namespace Sys2Proof.Machine

open Sys2Proof

/-! ### RELEASE_HOLD (R53) -/

section
open Classical

theorem answerRelease_code (t : Taken) (n : Nat) (s : State) :
    (answerRelease t n s).code =
      if ¬ PlanNumber n then .badArgument
      else if s.timebase.mode ≠ .hold then .wrongMode
      else if ¬ ready s n = true then .notReady else .ok := by
  simp [answerRelease, notHoldItem, firstRefusal_cons, ← Bool.not_eq_true, isPlan_iff]

end

/-- The bias that a plan is given is its nominal, or the pin clamped into its range (R53, R105). -/
theorem installedBias_spec (s : State) (p : Fin 24) :
    (s.selector.biasPin = none →
      installedBias s (p.val + 1) = s.store.plans[p].head.biasNominal) ∧
    (∀ v, s.selector.biasPin = some v → installedBias s (p.val + 1) =
      max s.store.plans[p].head.biasMin (min v s.store.plans[p].head.biasMax)) := by
  refine ⟨fun free => ?_, fun v pinned => ?_⟩
  · simp [installedBias, free]
  · simp [installedBias, pinned, clampBias]

/-- The bias that a plan is given is read off the store and the bias pin. -/
theorem installedBias_congr {s u : State} (p : Nat) (store : u.store = s.store)
    (pin : u.selector.biasPin = s.selector.biasPin) : installedBias u p = installedBias s p := by
  simp [installedBias, store, pin]

/-- Settles O28: the refusals by the answer's code, the rest from the state that the reply leaves. -/
theorem holdReleased : Obligations.HoldReleased := by
  intro s t n rest h
  have carries := h.holdRelease
  have code := answerRelease_code t n (takeFrame t.port s)
  refine ⟨fun out => ?_, fun p named => ?_⟩
  · exact carries.refused (answer := answerRelease) rfl (by rw [code, if_pos out]) (by decide)
  have plan : PlanNumber n := (isPlan_iff n).1 (named ▸ isPlan_succ p)
  have isReady : ready (takeFrame t.port s) n = true ↔ PlanReady s p := by
    rw [named, ready_iff]
    simp [PlanReady]
  refine ⟨fun busy => ?_, fun held unready => ?_, fun held isReady' => ?_⟩
  · exact carries.refused (answer := answerRelease) rfl (by simp [code, plan, busy]) (by decide)
  · exact carries.refused (answer := answerRelease) rfl (by simp [code, plan, held, isReady, unready])
      (by decide)
  · have accepted := carries.accepted (answer := answerRelease) (effect := effectRelease) (result := [])
      (c := .releaseHold) rfl (by simp [code, plan, held, isReady, isReady']) rfl
    have spoke := enterEntering_spoke n (answered s t .ok [])
    have raised : (enterEntering n (answered s t .ok [])).causeRaised = true := by
      simp [enterEntering, raiseCause]
    have bias : (enterEntering n (answered s t .ok [])).selector =
        { s.selector with liveBias := installedBias s n } := by
      rw [enterEntering_selector, installedBias_congr n (s := s) (by simp) (by simp)]
      simp
    obtain ⟨nominal, clamped⟩ := installedBias_spec s p
    rw [← named] at nominal clamped
    refine ⟨_, accepted, ?_, fun free => ?_, fun v pinned => ?_, settle_cause raised ?_,
      replied_then_noticed (answered_replied s t .ok []) (spoke.then_eq ?_ ?_ ?_) ?_⟩
    · apply State.ext
      case causeRaised => simpa [AtRest] using rest.symm
      all_goals simp [effectRelease, enterEntering_timebase, bias]
    · simp [effectRelease, bias, nominal free]
    · simp [effectRelease, bias, clamped v pinned]
    all_goals simp [effectRelease]

/-! ### The completion of a computation (R43, R44) -/

/-- The completion once its result has been published or discarded and its causes have arrived, in `v`: a
computation starts if one is owed, and else the engine is IDLE (R44). -/
def nextComputation (discarded : Bool) (v : State) : State :=
  if (computingPlan v).isSome && (v.engine.again || discarded) then startComputation v
  else v.setEngine { v.engine with computing := none, again := false, void := false }

theorem exec_computationComplete {s : State} {x : Snapshot} (running : s.inReset = false)
    (computing : s.engine.computing = some x) :
    exec .computationComplete s = .next
      (nextComputation (discards s x) (settle (if discards s x then s else publish x s))) := by
  have act : computationDone s = completeComputation x s := by simp [computationDone, computing]
  refine congrArg Host.Outcome.next ((whenRunning_running computationDone running).trans ?_)
  rw [act]
  rfl

section
variable {v : State} {discarded : Bool}

/-- Whether a computation starts or none, the flags are clear and the sets stay. -/
theorem nextComputation_engine (discarded : Bool) (v : State) :
    (nextComputation discarded v).engine =
      { v.engine with
        computing := (nextComputation discarded v).engine.computing, again := false, void := false } := by
  unfold nextComputation startComputation
  repeat' split
  all_goals rfl

theorem nextComputation_frame (discarded : Bool) (v : State) :
    nextComputation discarded v = { v with engine := (nextComputation discarded v).engine } := by
  unfold nextComputation startComputation
  repeat' split
  all_goals rfl

/-- A computation that is owed starts for the computing plan. -/
theorem nextComputation_owed {p : Nat} {role : PlanRole} (role_eq : computingRole v = some (p, role))
    (owed : v.engine.again = true ∨ discarded = true) :
    (nextComputation discarded v).engine.computing = some (takeSnapshot v p role) := by
  have starts : nextComputation discarded v = startComputation v := by
    simp [nextComputation, computingPlan, role_eq, owed]
  rw [starts, startComputation_engine role_eq]

/-- In HOLD, and where none is owed, no computation starts. -/
theorem nextComputation_idle (h : v.timebase.mode = .hold ∨ ¬(v.engine.again = true ∨ discarded = true)) :
    (nextComputation discarded v).engine.computing = none := by
  have idles : nextComputation discarded v =
      v.setEngine { v.engine with computing := none, again := false, void := false } := by
    unfold nextComputation
    rw [if_neg]
    rcases h with held | notOwed
    · simp [computingPlan, computingRole, held]
    · simp [notOwed]
  rw [idles, setEngine_engine]

end

theorem discards_iff (s : State) (x : Snapshot) :
    discards s x = true ↔ s.engine.void = true ∨ computingPlan s ≠ some x.plan := by
  simp [discards]

/-- A result whose plan is computed outside ENTERING is computed in RUN. -/
theorem running_of_kept {s : State} {x : Snapshot} (kept : ¬ discards s x = true)
    (left : s.timebase.mode ≠ .entering) : s.timebase.mode = .run := by
  rw [discards_iff, not_or, not_not] at kept
  cases mode : s.timebase.mode with
  | hold => simp [computingPlan, computingRole, mode] at kept
  | entering => exact absurd mode left
  | run => rfl

/-- In RUN a result is published to the active set for the active plan, and to the pending set for the
pending plan (R43). -/
theorem publish_run {s : State} (running : s.timebase.mode = .run) (x : Snapshot) :
    let gen := (s.engine.generation + 1) % 65536
    (s.timebase.pendingPlan = 0 → publish x s =
      s.setEngine { s.engine with generation := gen, active := some (computeSet x gen) }) ∧
    (s.timebase.pendingPlan ≠ 0 → publish x s =
      s.setEngine { s.engine with generation := gen, pendingSet := some (computeSet x gen) }) := by
  refine ⟨fun noPending => ?_, fun pending => ?_⟩
  · simp [publish, running, computingRole, noPending]
  · simp [publish, running, computingRole, pending]

/-- The end of a completion that has written the sets and the generation alone: what is left of the state,
and which computation starts. -/
theorem nextComputation_setEngine {s : State} {e : Engine} (again : e.again = s.engine.again)
    (discarded : Bool) :
    let u := nextComputation discarded (s.setEngine e)
    u = { s with engine := u.engine } ∧ u.engine.again = false ∧ u.engine.void = false ∧
    u.engine.generation = e.generation ∧ u.engine.active = e.active ∧
    u.engine.pendingSet = e.pendingSet ∧
    (∀ p role, computingRole s = some (p, role) → s.engine.again = true ∨ discarded = true →
      u.engine.computing = some (takeSnapshot s p role)) ∧
    (s.timebase.mode = .hold ∨ ¬(s.engine.again = true ∨ discarded = true) →
      u.engine.computing = none) := by
  have engine := nextComputation_engine discarded (s.setEngine e)
  refine ⟨nextComputation_frame discarded (s.setEngine e), by rw [engine], by rw [engine], by rw [engine]; rfl,
    by rw [engine]; rfl, by rw [engine]; rfl, fun p role computing owed => ?_, fun idle => ?_⟩
  · exact nextComputation_owed (v := s.setEngine e) computing (by simpa [again] using owed)
  · exact nextComputation_idle (v := s.setEngine e) (by simpa [again] using idle)

/-- Settles O25: the result published or discarded, then the end of the completion. -/
theorem computationCompletes : Obligations.ComputationCompletes := by
  intro s x running rest computing discarded left gen
  have done := exec_computationComplete running computing
  have marked : discards s x = true ↔ discarded := discards_iff s x
  have entering : s.timebase.mode = .entering → computingRole s = some (s.timebase.entry, .entry) :=
    fun h => by simp [computingRole, h]
  by_cases isDiscarded : discards s x = true
  · have out := marked.1 isDiscarded
    rw [if_pos isDiscarded, settle_rest rest] at done
    obtain ⟨frame, again, void, generation, active, pendingSet, owed, idle⟩ :=
      nextComputation_setEngine (s := s) rfl (discards s x)
    rw [marked] at owed idle
    exact ⟨_, done, frame, again, void, fun _ => ⟨generation, active, pendingSet⟩, fun kept => absurd out kept,
      fun kept => absurd out kept, fun kept => absurd out kept, fun p role => owed p role, fun h =>
      owed _ _ (entering h) (.inr out), idle⟩
  · have kept : ¬ discarded := mt marked.2 isDiscarded
    have inRun := running_of_kept isDiscarded (mt left kept)
    obtain ⟨forActive, forPending⟩ := publish_run inRun x
    rw [if_neg isDiscarded] at done
    by_cases noPending : s.timebase.pendingPlan = 0
    · rw [forActive noPending, settle_rest (by simpa [AtRest] using rest)] at done
      obtain ⟨frame, again, void, generation, active, pendingSet, owed, idle⟩ :=
        nextComputation_setEngine (s := s) (e := { s.engine with
          generation := gen, active := some (computeSet x gen) }) rfl (discards s x)
      rw [marked] at owed idle
      exact ⟨_, done, frame, again, void, fun out => absurd out kept, fun _ => generation,
        fun _ _ => ⟨active, pendingSet⟩, fun _ pending => absurd noPending pending, owed,
        fun h => absurd (left h) kept, idle⟩
    · rw [forPending noPending, settle_rest (by simpa [AtRest] using rest)] at done
      obtain ⟨frame, again, void, generation, active, pendingSet, owed, idle⟩ :=
        nextComputation_setEngine (s := s) (e := { s.engine with
          generation := gen, pendingSet := some (computeSet x gen) }) rfl (discards s x)
      rw [marked] at owed idle
      exact ⟨_, done, frame, again, void, fun out => absurd out kept, fun _ => generation,
        fun _ zero => absurd zero noPending, fun _ _ => ⟨pendingSet, active⟩, owed,
        fun h => absurd (left h) kept, idle⟩

/-! ### The plan switch at a cycle boundary (R59) -/

/-- What a plan permits of an entry (R125, R136). -/
theorem permits_eq (r : PlanRecord) (e : PriorityEntry) :
    permits r e.junction e.direction =
      match e.direction with
      | .inbound => r.entries[e.junction].priIn
      | .outbound => r.entries[e.junction].priOut := by
  cases h : e.direction <;> rfl

theorem setLiveBias_selector (b : Nat) (s : State) :
    (setLiveBias b s).selector = { s.selector with liveBias := b } := by
  simp [setLiveBias]

theorem setLiveBias_causeRaised (b : Nat) (s : State) :
    (setLiveBias b s).causeRaised = true ↔ s.causeRaised = true ∨ s.selector.liveBias ≠ b := by
  by_cases same : s.selector.liveBias = b <;> simp [setLiveBias, raiseCauseIf, raiseCause, same]

theorem exec_cycleBoundary {s : State} (running : s.inReset = false) (due : s.due.boundary = true) :
    exec .cycleBoundary s =
      .next (settle (boundary (s.setDue { s.due with boundary := false }))) := by
  refine congrArg Host.Outcome.next ((whenRunning_running cycleBoundary running).trans ?_)
  simp [cycleBoundary, due]

/-- Without a pending plan whose set stands, the boundary passes. -/
theorem boundary_passes {s : State}
    (h : s.timebase.pendingPlan = 0 ∨ s.engine.pendingSet = none) : boundary s = s := by
  unfold boundary
  rcases h with h | h
  · split <;> simp [h]
  · simp [h]

theorem boundary_switches {s : State} {new : TargetSet} (pending : s.timebase.pendingPlan ≠ 0)
    (published : s.engine.pendingSet = some new) (same : new.plan = s.timebase.pendingPlan) :
    boundary s = switchPlan new s := by
  simp [boundary, published, pending, same]

/-- What the plan switch leaves of the bias and the engine, and whether it raises a cause (R48, R59, R105). -/
theorem switchPlan_blocks (new : TargetSet) (s : State) :
    (switchPlan new s).selector =
      { s.selector with liveBias := installedBias s s.timebase.pendingPlan } ∧
    (switchPlan new s).engine = { s.engine with active := some new, pendingSet := none } ∧
    ((switchPlan new s).causeRaised = true ↔ s.causeRaised = true ∨
      s.selector.liveBias ≠ installedBias s s.timebase.pendingPlan) := by
  have bias : ∀ (b : Timebase) (e : Engine),
      installedBias ((s.setTimebase b).setEngine e) s.timebase.pendingPlan =
        installedBias s s.timebase.pendingPlan := fun b e => installedBias_congr _ rfl rfl
  refine ⟨?_, ?_, ?_⟩
  · simp [switchPlan, setLiveBias_selector, bias]
  · simp [switchPlan]
  · simp [switchPlan, setLiveBias_causeRaised, bias]

/-- The entries that the new plan does not permit are dropped with their frames and notices, and the notice
of the switch follows (R136). -/
theorem switchPlan_spoke (new : TargetSet) (s : State) :
    let dropped := s.priority.list.filter fun e =>
      !permits (s.store.plan s.timebase.pendingPlan) e.junction e.direction
    Spoke s (switchPlan new s) (outcomesPlaced (.dropped .plan) dropped (lineReplyCount s.line))
      (outcomeNotices (.dropped .plan) dropped (lineReplyCount s.line) ++
        [.planChanged s.timebase.active s.timebase.pendingPlan new.generation]) := by
  intro dropped
  unfold switchPlan
  dsimp only
  generalize hv : setLiveBias _ _ = v
  have store : v.store = s.store := by simp [← hv]
  have list : v.priority = s.priority := by simp [← hv]
  have line : v.line = s.line := by simp [← hv]
  have drops := dropEntries_spoke
    (fun e => !permits (v.store.plan s.timebase.pendingPlan) e.junction e.direction) .plan v
  rw [store, list, line] at drops
  have told := (drops.after_eq (s := s) line (by simp [← hv]) (by simp [← hv])).trans
    (queueNotice_spoke (.planChanged s.timebase.active s.timebase.pendingPlan new.generation) _)
  rw [List.append_nil] at told
  rw [store]
  exact told

theorem switchPlan_steers (new : TargetSet) (s : State) :
    lineSteers (switchPlan new s).line = lineSteers s.line := by
  simp [switchPlan]

/-- Where keys are unique, the entries that the new plan permits stay. -/
theorem switchPlan_priority (new : TargetSet) {s : State}
    (keys : (s.priority.list.map fun e => (e.junction, e.tag)).Nodup) :
    (switchPlan new s).priority =
      { s.priority with list := s.priority.list.filter (fun e =>
          permits (s.store.plan s.timebase.pendingPlan) e.junction e.direction) } := by
  simp [switchPlan, dropEntries_priority, keys]

/-- What a block told the Line Port without touching a steer leaves it quiet. -/
theorem Spoke.lineQuiet {s u : State} {outs : List ReplyItem} {bodies : List NoticeBody}
    (h : Spoke s u outs bodies) (steers : lineSteers u.line = lineSteers s.line) : LineQuiet s u := by
  obtain ⟨state, errors, drops, credits⟩ := h.kept
  exact ⟨state, errors, drops, h.missed, h.beats, steers, credits⟩

theorem Spoke.nothingServed {s u : State} {outs : List ReplyItem} {bodies : List NoticeBody}
    (h : Spoke s u outs bodies) : NothingServed s u :=
  ⟨h.handler, h.rx, h.centreRx, h.centreReplies⟩

/-- Settles O31: the boundary that passes, and the plan switch block by block. -/
theorem boundaryTestsForSwitch : Obligations.BoundaryTestsForSwitch := by
  intro s running rest due
  have done := exec_cycleBoundary running due
  refine ⟨fun nothing => ?_, fun p new _ pending published same keys => ?_⟩
  · rw [done, boundary_passes (by exact nothing), settle_rest (by simpa [AtRest] using rest)]
    rfl
  · intro r allowed dropped
    rw [boundary_switches (by simp [pending]) (by simpa using published) (by simpa [pending] using same)]
      at done
    set v := s.setDue { s.due with boundary := false } with hv
    obtain ⟨nominal, clamped⟩ := installedBias_spec s p
    have plan : v.store.plan v.timebase.pendingPlan = r := by simp [hv, pending, r]
    have bias : installedBias v v.timebase.pendingPlan = installedBias s (p.val + 1) := by
      simp [hv, pending, installedBias]
    have allowed_eq : (fun e : PriorityEntry => permits r e.junction e.direction) = allowed :=
      funext fun e => permits_eq r e
    have dropped_eq : (s.priority.list.filter fun e => !permits r e.junction e.direction) = dropped :=
      congrArg (fun f : PriorityEntry → Bool => s.priority.list.filter fun e => !f e) allowed_eq
    have timebase : (switchPlan new v).timebase =
        { s.timebase with active := p.val + 1, c := r.head.c, pendingPlan := 0 } := by
      rw [switchPlan_timebase, plan]
      simp [hv, pending]
    have list : (switchPlan new v).priority =
        { s.priority with list := s.priority.list.filter allowed } := by
      rw [switchPlan_priority new (s := v) keys, plan, allowed_eq]
      rfl
    obtain ⟨selector, engine, raised⟩ := switchPlan_blocks new v
    rw [bias] at selector raised
    have told : Spoke s (settle (switchPlan new v))
        (outcomesPlaced (.dropped .plan) dropped (lineReplyCount s.line))
        (outcomeNotices (.dropped .plan) dropped (lineReplyCount s.line) ++
          [.planChanged s.timebase.active (p.val + 1) new.generation]) := by
      rw [← dropped_eq, ← pending, ← plan]
      exact ((switchPlan_spoke new v).after_eq (s := s) rfl rfl rfl).then_eq (by simp) (by simp)
        (by simp)
    have steers : lineSteers (settle (switchPlan new v)).line = lineSteers s.line := by
      simp [switchPlan_steers, hv]
    have newBias : (settle (switchPlan new v)).selector.liveBias = installedBias s (p.val + 1) := by
      simp [selector]
    refine ⟨_, done, ?_, fun free => newBias.trans (nominal free),
      fun b pinned => newBias.trans (clamped b pinned), settle_causeIf (raised.trans ?_) engine,
      told.replies, told.lineQuiet steers, told.nothingServed, told.centreErrors, told.notices⟩
    · apply State.ext
      case causeRaised => simpa [AtRest] using rest.symm
      case selector => simp only [settle_frame, selector]; rfl
      all_goals simp [timebase, list]
      all_goals simp [hv]
    · rw [newBias, show v.causeRaised = false from rest]
      simp [hv, eq_comm]

end Sys2Proof.Machine
end

section
/-! What a request or an event that stops or starts coordination tells the two ports, and what becomes of
the frame in flight, the beats and the steers (R154, R155, R161). -/

namespace Sys2Proof.Machine

open Sys2Proof

/-! ### What the ports are told, beats and steers left open -/

/-- Between `s` and `u` these OUTCOME frames were placed behind the replies of the line and these notices
were queued; the receive queues, the centre replies, the error counters, the drops, the line state and the
pointer stay, and the credits but for a refill. Beats and steers are left open. -/
structure Told (s u : State) (outs : List ReplyItem) (bodies : List NoticeBody) : Prop where
  kept          : LineKept s u
  rx            : u.line.rx = s.line.rx
  replies       : lineReplies u.line = lineReplies s.line ++ outs
  centreRx      : u.centre.rx = s.centre.rx
  centreErrors  : u.centre.errors = s.centre.errors
  centreReplies : centreReplies u.centre = centreReplies s.centre
  notices       : NoticesQueued s u bodies
  handler       : u.handler = s.handler

theorem Spoke.told {s u : State} {o : List ReplyItem} {n : List NoticeBody} (h : Spoke s u o n) :
    Told s u o n :=
  ⟨h.kept, h.rx, h.replies, h.centreRx, h.centreErrors, h.centreReplies, h.notices, h.handler⟩

section
variable {s u v : State} {o o' : List ReplyItem} {n n' : List NoticeBody}

theorem Told.trans (h : Told s v o n) (h' : Told v u o' n') : Told s u (o ++ o') (n ++ n') := by
  obtain ⟨state, errors, drops, credits⟩ := h.kept
  obtain ⟨state', errors', drops', credits'⟩ := h'.kept
  exact ⟨⟨state'.trans state, errors'.trans errors, drops'.trans drops, credits.trans credits'⟩,
    h'.rx.trans h.rx, by rw [h'.replies, h.replies, List.append_assoc], h'.centreRx.trans h.centreRx,
    h'.centreErrors.trans h.centreErrors, h'.centreReplies.trans h.centreReplies,
    h.notices.trans h'.notices, h'.handler.trans h.handler⟩

theorem Told.then_eq (h : Told s v o n) (hl : u.line = v.line) (hc : u.centre = v.centre)
    (hh : u.handler = v.handler) : Told s u o n := by
  simpa using h.trans (Spoke.of_eq hl hc hh).told

theorem Told.nothingServed (h : Told s u o n) : NothingServed s u :=
  ⟨h.handler, h.rx, h.centreRx, h.centreReplies⟩

theorem queueBeat_told (s : State) : Told s (queueBeat s) [] [] := by
  refine ⟨⟨?_, ?_, ?_, queueBeat_credits s⟩, ?_, ?_, ?_, ?_, ?_, .refl ?_, ?_⟩ <;> simp

theorem emptyBeat_told (s : State) : Told s (emptyBeat s) [] [] := by
  refine ⟨⟨?_, ?_, ?_, .inl ⟨?_, ?_⟩⟩, ?_, ?_, ?_, ?_, ?_, .refl ?_, ?_⟩ <;>
    simp [emptyBeat, lineReplies, flightReplies]

/-- An accepted request whose effect follows its reply (R126, R166). -/
theorem replied_then_told {t : Taken} {bodies : List NoticeBody}
    (answer : Replied s v t .ok [] ∧ OnlyPorts s v) (told : Told v u o bodies) :
    RepliedThen s u t o ∧ u.handler.reset = s.handler.reset ∧ LineKept s u ∧
      CentreNoticed s u bodies := by
  obtain ⟨⟨⟨served, taken, other⟩, reply, others⟩, -, quiet, ⟨errors, seq, notices⟩, reset⟩ := answer
  obtain ⟨state, lineErrors, drops, -, -, -, credits⟩ := quiet
  obtain ⟨state', lineErrors', drops', credits'⟩ := told.kept
  have received : ∀ p, receiveQueue u p = receiveQueue v p := by
    intro p
    cases p with
    | line => exact told.rx
    | centre => exact told.centreRx
  have centre : queuedReplies u .centre = queuedReplies v .centre := by
    simp [queuedReplies, told.centreReplies]
  have line : queuedReplies u .line = queuedReplies v .line ++ o := told.replies
  have silent : NoticesQueued s v [] := by
    refine ⟨seq, ?_, fun _ => by simp [numbered, notices]⟩
    simpa [numbered, notices] using List.take_prefix _ _
  refine ⟨⟨⟨?_, ?_, ?_⟩, ?_, ?_⟩, ?_, ⟨state'.trans state, lineErrors'.trans lineErrors,
    drops'.trans drops, credits.trans credits'⟩, told.centreErrors.trans errors,
    silent.trans told.notices⟩
  · rw [told.handler, served]
  · rw [received, taken]
  · rw [received, other]
  · rw [line]
    cases port : t.port <;> simp_all [Port.other]
  · rw [centre]
    cases port : t.port <;> simp_all [Port.other]
  · rw [told.handler, reset]

end

/-- A reply on the centre link leaves the line (R166). -/
theorem answered_line_of_centre {s : State} {t : Taken} (port : t.port = .centre) (c : ReplyCode)
    (r : List Byte) : (answered s t c r).line = s.line := by
  simp [answered, queueReply, takeFrame, port]

/-! ### The frame in flight and the waiting beat (R155, R161) -/

/-- A frame in flight stays, and one that started since is not marked. -/
structure FlightKept (s u : State) : Prop where
  busy  : ∀ f, s.line.inFlight = some f → u.line.inFlight = some f
  fresh : s.line.inFlight = none → ∀ f, u.line.inFlight = some f → f.orphaned = false

/-- A beat that waits where it cannot start waits on. -/
structure BeatWaits (s u : State) : Prop extends FlightKept s u where
  state : u.line.state = s.line.state
  beat  : s.line.inFlight ≠ none ∨ s.line.state ≠ .free ∨ s.line.beat = none →
    u.line.beat = s.line.beat

section
variable {s u v : State}

theorem FlightKept.of_eq (h : u.line.inFlight = s.line.inFlight) : FlightKept s u :=
  ⟨fun f hf => h.trans hf, fun idle f hf => by rw [h, idle] at hf; cases hf⟩

theorem FlightKept.trans (h : FlightKept s v) (h' : FlightKept v u) : FlightKept s u := by
  refine ⟨fun f hf => h'.busy f (h.busy f hf), fun idle f hf => ?_⟩
  cases started : v.line.inFlight with
  | none => exact h'.fresh started f hf
  | some g =>
    obtain rfl : g = f := Option.some.inj ((h'.busy g started).symm.trans hf)
    exact h.fresh idle g started

theorem BeatWaits.of_eq (h : u.line.inFlight = s.line.inFlight) (state : u.line.state = s.line.state)
    (beat : u.line.beat = s.line.beat) : BeatWaits s u := ⟨.of_eq h, state, fun _ => beat⟩

theorem BeatWaits.trans (h : BeatWaits s v) (h' : BeatWaits v u) : BeatWaits s u := by
  refine ⟨h.toFlightKept.trans h'.toFlightKept, h'.state.trans h.state, fun waits => ?_⟩
  refine (h'.beat ?_).trans (h.beat waits)
  rcases waits with busy | closed | empty
  · obtain ⟨f, hf⟩ := Option.ne_none_iff_exists'.1 busy
    exact .inl (by simp [h.busy f hf])
  · exact .inr (.inl (by rwa [h.state]))
  · exact .inr (.inr ((h.beat (.inr (.inr empty))).trans empty))

/-- Nothing starts on a line that is not FREE or has a frame in flight (R155). -/
theorem startLine_stays (h : s.line.inFlight ≠ none ∨ s.line.state ≠ .free) : startLine s = s := by
  unfold startLine
  rw [if_neg]
  tauto

theorem startLine_beatWaits (s : State) : BeatWaits s (startLine s) := by
  by_cases stays : s.line.inFlight ≠ none ∨ s.line.state ≠ .free
  · rw [startLine_stays stays]
    exact .of_eq rfl rfl rfl
  · rw [not_or, not_not, not_not] at stays
    obtain ⟨idle, free⟩ := stays
    refine ⟨⟨fun f hf => by simp [idle] at hf, fun _ f hf => ?_⟩, (startLine_line s).1, fun waits => ?_⟩
    · obtain e | ⟨_, b, _, e⟩ | ⟨_, l, _, ⟨w, rest, _, e⟩ | ⟨r, rest, _, e⟩⟩ := startLine_cases s <;>
        rw [e] at hf
      · rw [idle] at hf
        cases hf
      all_goals
        obtain rfl := Option.some.inj hf
        rfl
    · have empty : s.line.beat = none := by simpa [idle, free] using waits
      obtain e | ⟨_, b, hb, e⟩ | ⟨_, l, rfl | rfl, ⟨w, rest, _, e⟩ | ⟨r, rest, _, e⟩⟩ :=
        startLine_cases s <;> rw [e]
      · simp [empty] at hb
      all_goals rfl

theorem queueLineReply_beatWaits (item : ReplyItem) (s : State) :
    BeatWaits s (queueLineReply item s) := by
  unfold queueLineReply
  refine BeatWaits.trans ?_ (startLine_beatWaits _)
  exact .of_eq rfl rfl rfl

theorem queueBeat_flightKept (s : State) : FlightKept s (queueBeat s) := by
  unfold queueBeat
  refine FlightKept.trans ?_ (startLine_beatWaits _).toFlightKept
  exact .of_eq rfl

theorem sendOutcome_beatWaits (e : PriorityEntry) (o : CallOutcome) (s : State) :
    BeatWaits s (sendOutcome e o s) := by
  unfold sendOutcome
  repeat' split
  · exact .of_eq rfl rfl rfl
  · exact queueLineReply_beatWaits _ s
  · exact .of_eq rfl rfl rfl

theorem removeEntry_beatWaits (e : PriorityEntry) (o : CallOutcome) (s : State) :
    BeatWaits s (removeEntry e o s) := by
  unfold removeEntry
  dsimp only
  generalize hv : s.setPriority _ = v
  have removed : BeatWaits s v := hv ▸ .of_eq rfl rfl rfl
  exact (removed.trans (sendOutcome_beatWaits e o v)).trans (.of_eq (by simp) (by simp) (by simp))

theorem removeAll_beatWaits (o : CallOutcome) (es : List PriorityEntry) (s : State) :
    BeatWaits s (removeAll o es s) := by
  induction es generalizing s with
  | nil => exact .of_eq rfl rfl rfl
  | cons e rest ih => exact (removeEntry_beatWaits e o s).trans (ih _)

/-- The beats of the line after one has been queued: the one that waited is replaced (R154). -/
theorem queueBeat_beats (s : State) :
    lineBeats (queueBeat s).line = flightBeats s.line ++ [(s.timebase.beatSeq + 1) % 256] := by
  rw [queueBeat, (startLine_holds _).1]
  simp [lineBeats, flightBeats]

/-- The STEER queue emptied under the frame in flight. -/
theorem emptySteers_marked (s : State) : FlightMarked s (emptySteers s) := by
  refine ⟨fun f hf => ⟨fun st item => ?_, fun other => ?_⟩, fun idle f hf => ?_⟩
  · simp [emptySteers, hf, item]
  · cases item : f.item with
    | steer st => exact absurd item (other st)
    | beat _ => simp [emptySteers, hf, item]
    | queued _ => simp [emptySteers, hf, item]
  · simp [emptySteers, idle] at hf

theorem FlightMarked.then_kept (h : FlightMarked s v) (h' : FlightKept v u) : FlightMarked s u := by
  obtain ⟨busy, idle⟩ := h
  refine ⟨fun f hf => ?_, fun none f hf => ?_⟩
  · obtain ⟨steer, other⟩ := busy f hf
    exact ⟨fun st item => h'.busy _ (steer st item), fun item => h'.busy _ (other item)⟩
  · cases started : v.line.inFlight with
    | none => exact h'.fresh started f hf
    | some g =>
      obtain rfl : g = f := Option.some.inj ((h'.busy g started).symm.trans hf)
      exact idle none g started

end

end Sys2Proof.Machine
end

section
/-! ENTER_HOLD and RESET_ENGINE: the stop of coordination (R56, R57, R173). -/

namespace Sys2Proof.Machine

open Sys2Proof

/-! ### The stop of coordination (R46, R56, R57, R61, R111, R161) -/

/-- What the stop of coordination makes of the blocks beside the ports and the priority list. -/
theorem stopCoordination_blocks (r : DropReason) (s : State) :
    (stopCoordination r s).timebase = heldTimebase s.timebase ∧
    (stopCoordination r s).cycles = heldCycles ∧
    (stopCoordination r s).due = { Due.nothing with periodEnd := s.due.periodEnd } ∧
    (stopCoordination r s).engine = { s.engine with
      void := s.engine.void || s.engine.computing.isSome, again := false, pendingSet := none } ∧
    (stopCoordination r s).selector = { s.selector with
      planPin := none, evalTimer := none, candidate := none, count := 0 } := by
  simp [stopCoordination, engineToHold]

/-- The stop marks a steer in flight, and keeps a beat that waits where it cannot start. -/
theorem stopCoordination_line (r : DropReason) (s : State) :
    FlightMarked s (stopCoordination r s) ∧
    (s.line.inFlight ≠ none ∨ s.line.state ≠ .free ∨ s.line.beat = none →
      (stopCoordination r s).line.beat = s.line.beat) := by
  unfold stopCoordination
  dsimp only
  generalize hv : (State.setDue _ _) = v
  have line : v.line = s.line := by simp [← hv]
  have marked : FlightMarked s (emptySteers v) := by
    simpa only [FlightMarked, line] using emptySteers_marked v
  have drops := removeAll_beatWaits (.dropped r) ((emptySteers v).priority.list.filter fun _ => true)
    (emptySteers v)
  refine ⟨marked.then_kept (drops.toFlightKept.trans (.of_eq ?_)), fun waits => ?_⟩
  · simp [dropEntries]
  · have kept := drops.beat (by simpa [emptySteers, line] using waits)
    simpa [dropEntries, emptySteers, line] using kept

/-- After the stop of coordination the beat that is queued stands behind a beat in flight (R161). -/
theorem stopCoordination_flightBeats (r : DropReason) {s : State}
    (waits : s.line.inFlight ≠ none ∨ s.line.state ≠ .free ∨ s.line.beat = none) :
    flightBeats (stopCoordination r s).line = flightBeats s.line := by
  have held := (stopCoordination_spoke r s).beats
  rw [lineBeats, lineBeats, (stopCoordination_line r s).2 waits] at held
  exact List.append_cancel_right held

/-! ### ENTER_HOLD (R56) -/

theorem holdEffects_told (s : State) :
    Told s (holdEffects s) (outcomesPlaced (.dropped .hold) s.priority.list (lineReplyCount s.line))
      (outcomeNotices (.dropped .hold) s.priority.list (lineReplyCount s.line) ++
        [.modeChanged s.timebase.mode .hold 0]) := by
  have told := ((stopCoordination_spoke .hold s).told.trans (queueBeat_told _)).trans
    (queueNotice_spoke (.modeChanged s.timebase.mode .hold 0) _).told
  simpa [holdEffects] using told

theorem holdEffects_line (s : State) :
    (holdEffects s).line = (queueBeat (stopCoordination .hold s)).line := by
  simp [holdEffects]

/-- What an accepted ENTER_HOLD makes of every block. -/
theorem holdEffects_eq (s : State) :
    holdEffects s = { s with
      timebase := { mode := .hold, cc := 0, c := 0, active := 0, pendingPlan := 0, entry := 0,
                    divider := none, beatSeq := (s.timebase.beatSeq + 1) % 256 }
      cycles := Vector.replicate 12 .held
      due := { Due.nothing with periodEnd := s.due.periodEnd }
      priority := { s.priority with list := [] }
      engine := { s.engine with
        void := s.engine.void || s.engine.computing.isSome, again := false, pendingSet := none }
      selector := { s.selector with
        planPin := none, evalTimer := none, candidate := none, count := 0 }
      line := (holdEffects s).line, centre := (holdEffects s).centre } := by
  obtain ⟨timebase, cycles, due, engine, selector⟩ := stopCoordination_blocks .hold s
  apply State.ext <;> simp [holdEffects, timebase, cycles, due, engine, selector, heldTimebase, heldCycles]

/-- One beat is queued, in the place of one that waits, and the steers go. -/
theorem holdEffects_frames (s : State) :
    let seq := (s.timebase.beatSeq + 1) % 256
    FlightMarked s (holdEffects s) ∧ lineSteers (holdEffects s).line = flightSteers s.line ∧
    (lineBeats (holdEffects s).line).getLast? = some seq ∧
    (s.line.inFlight ≠ none ∨ s.line.state ≠ .free ∨ s.line.beat = none →
      lineBeats (holdEffects s).line = flightBeats s.line ++ [seq] ∧
      (holdEffects s).line.missedBeats =
        if s.line.beat.isSome then min 65535 (s.line.missedBeats + 1) else s.line.missedBeats) := by
  intro seq
  obtain ⟨marked, beat⟩ := stopCoordination_line .hold s
  have beats : lineBeats (holdEffects s).line =
      flightBeats (stopCoordination .hold s).line ++ [seq] := by
    rw [holdEffects_line, queueBeat_beats, (stopCoordination_blocks .hold s).1]
    rfl
  refine ⟨?_, ?_, by simp [beats], fun waits => ⟨?_, ?_⟩⟩
  · refine marked.then_kept ((queueBeat_flightKept _).trans (.of_eq ?_))
    rw [holdEffects_line]
  · simp [holdEffects_line]
  · rw [beats, stopCoordination_flightBeats .hold waits]
  · have missed := (stopCoordination_spoke .hold s).missed
    simp [holdEffects_line, beat waits, missed, bump, Config.counterMax]

theorem exec_enterHold {s : State} {t : Taken} (rest : AtRest s) (h : Admits s t .enterHold)
    (out : s.timebase.mode ≠ .hold) :
    exec .enterHold s = .next (holdEffects (answered s t .ok [])) := by
  rw [h.holdEntry.accepted (answer := answerEnterHold) (effect := effectEnterHold) (result := []) rfl
    (by simp [answerEnterHold, firstRefusal_cons, out]) rfl, settle_rest]
  · rfl
  · simpa [effectEnterHold, AtRest] using rest

/-- Settles O29: the stop of coordination on the state that the reply, a centre's, has left. -/
theorem holdEntered : Obligations.HoldEntered := by
  intro s t rest h
  have carries := h.holdEntry
  refine ⟨fun held => ?_, fun out => ?_⟩
  · exact carries.refused (answer := answerEnterHold) rfl
      (by simp [answerEnterHold, firstRefusal_cons, held]) (by decide)
  · intro seq
    have port := carries.port_centre (fun _ => rfl) rfl
    have line := answered_line_of_centre (s := s) port .ok ([] : List Byte)
    have queued : queuedWithReply s t = lineReplyCount s.line := by simp [queuedWithReply, port]
    have told := holdEffects_told (answered s t .ok [])
    obtain ⟨marked, steers, last, beats⟩ := holdEffects_frames (answered s t .ok [])
    simp only [FlightMarked, line, answered_frame] at marked steers last beats told
    obtain ⟨replied, reset, kept, noticed⟩ := replied_then_told (answered_replied s t .ok []) told
    rw [queued]
    refine ⟨_, exec_enterHold rest h out, ?_, replied, reset, kept, marked, steers, last, beats, noticed⟩
    rw [holdEffects_eq]
    apply State.ext <;> simp [seq]

/-! ### RESET_ENGINE (R57, R173) -/

theorem resetCoordination_told (s : State) :
    Told s (resetCoordination s)
      (outcomesPlaced (.dropped .engineReset) s.priority.list (lineReplyCount s.line))
      (outcomeNotices (.dropped .engineReset) s.priority.list (lineReplyCount s.line) ++
        if s.timebase.mode = .hold then [] else [.modeChanged s.timebase.mode .hold 0]) := by
  have count : lineReplyCount (emptyBeat s).line = lineReplyCount s.line := rfl
  have stopped := (emptyBeat_told s).trans (stopCoordination_spoke .engineReset (emptyBeat s)).told
  rw [count] at stopped
  unfold resetCoordination
  dsimp only
  split
  · simpa using stopped
  · have told := (stopped.trans (queueBeat_told _)).trans
      (queueNotice_spoke (.modeChanged s.timebase.mode .hold 0) _).told
    simpa using told

/-- The beats and steers that waited go without a count, and outside HOLD one beat is queued. -/
theorem resetCoordination_frames (s : State) :
    FlightMarked s (resetCoordination s) ∧
    lineSteers (resetCoordination s).line = flightSteers s.line ∧
    lineBeats (resetCoordination s).line = flightBeats s.line ++
      (if s.timebase.mode = .hold then [] else [(s.timebase.beatSeq + 1) % 256]) ∧
    (resetCoordination s).line.missedBeats = s.line.missedBeats := by
  obtain ⟨marked, beat⟩ := stopCoordination_line .engineReset (emptyBeat s)
  have noBeat : (stopCoordination .engineReset (emptyBeat s)).line.beat = none := beat (.inr (.inr rfl))
  have flight : flightBeats (stopCoordination .engineReset (emptyBeat s)).line = flightBeats s.line :=
    stopCoordination_flightBeats .engineReset (.inr (.inr rfl))
  have missed : (stopCoordination .engineReset (emptyBeat s)).line.missedBeats = s.line.missedBeats :=
    (stopCoordination_spoke .engineReset (emptyBeat s)).missed
  have steers : lineSteers (stopCoordination .engineReset (emptyBeat s)).line = flightSteers s.line :=
    stopCoordination_steers .engineReset (emptyBeat s)
  have seq : (stopCoordination .engineReset (emptyBeat s)).timebase.beatSeq = s.timebase.beatSeq := by
    rw [(stopCoordination_blocks .engineReset (emptyBeat s)).1]
    rfl
  unfold resetCoordination
  dsimp only
  split
  · exact ⟨marked, steers, by simp [lineBeats, flight, noBeat], missed⟩
  · refine ⟨?_, by simp [steers], by simp [queueBeat_beats, flight, seq], by simp [noBeat, missed]⟩
    exact marked.then_kept ((queueBeat_flightKept _).trans (.of_eq (by simp)))

/-- What an accepted RESET_ENGINE makes of every block. -/
theorem engineReset_eq (s : State) :
    engineReset s = { s with
      timebase := { mode := .hold, cc := 0, c := 0, active := 0, pendingPlan := 0, entry := 0,
                    divider := none
                    beatSeq := if s.timebase.mode = .hold then s.timebase.beatSeq
                      else (s.timebase.beatSeq + 1) % 256 }
      cycles := Vector.replicate 12 .held
      due := Due.nothing
      priority := { s.priority with list := [] }
      engine := { s.engine with
        void := s.engine.void || s.engine.computing.isSome, again := false
        active := none, pendingSet := none }
      selector := { s.selector with
        planPin := none, biasPin := none, evalTimer := none, candidate := none, count := 0 }
      demand := .initial
      gate := .initial
      roster := .initial (junctionCount s)
      line := (resetCoordination s).line, centre := (resetCoordination s).centre } := by
  obtain ⟨timebase, cycles, due, engine, selector⟩ :=
    stopCoordination_blocks .engineReset (emptyBeat s)
  unfold engineReset resetCoordination
  dsimp only
  split <;> apply State.ext <;>
    simp [timebase, cycles, due, engine, selector, heldTimebase, heldCycles, junctionCount, Due.nothing]

theorem engineReset_line (s : State) : (engineReset s).line = (resetCoordination s).line := by
  simp [engineReset]

theorem engineReset_centre (s : State) : (engineReset s).centre = (resetCoordination s).centre := by
  simp [engineReset]

/-- The roster after a reset: SILENT below N and ABSENT at N or above (R138). -/
theorem roster_initial_junction (n : Nat) (j : Junction) :
    (Roster.initial n).junctions[j] = .initial (if j.val < n then .silent else .absent) :=
  Vector.getElem_ofFn j.isLt

theorem exec_resetEngine {s : State} {t : Taken} (rest : AtRest s) (h : Admits s t .resetEngine) :
    exec .resetEngine s = .next (engineReset (answered s t .ok [])) := by
  rw [h.engineReset.accepted (answer := answerResetEngine) (effect := effectResetEngine) (result := [])
    rfl rfl rfl, settle_rest]
  · rfl
  · simpa [effectResetEngine, AtRest] using rest

/-- Settles O58: the stop of coordination with both queues emptied, on the state that the reply, a
centre's, has left. -/
theorem engineResets : Obligations.EngineResets := by
  intro s t rest h seq
  have port := h.engineReset.port_centre (fun _ => rfl) rfl
  have line := answered_line_of_centre (s := s) port .ok ([] : List Byte)
  have queued : queuedWithReply s t = lineReplyCount s.line := by simp [queuedWithReply, port]
  have told := resetCoordination_told (answered s t .ok [])
  obtain ⟨marked, steers, beats, missed⟩ := resetCoordination_frames (answered s t .ok [])
  simp only [FlightMarked, ← engineReset_line, line, answered_frame] at marked steers beats missed told
  have told' := told.then_eq (engineReset_line _) (engineReset_centre _) (by simp)
  obtain ⟨replied, reset, kept, noticed⟩ := replied_then_told (answered_replied s t .ok []) told'
  rw [queued]
  refine ⟨_, exec_resetEngine rest h, ?_, fun j => ?_, replied, reset, kept, marked, missed, steers,
    beats, noticed⟩
  · rw [engineReset_eq]
    apply State.ext <;> simp [seq, Demand.initial, JunctionDemand.zero, Gate.initial, Spill.clear,
      Roster.initial]
  · have roster : (engineReset (answered s t .ok [])).roster = .initial (junctionCount s) := by
      rw [engineReset_eq]
      simp [junctionCount]
    rw [roster, roster_initial_junction]
    rfl

end Sys2Proof.Machine
end

section
/-! The steers that wait on a line on which nothing can start (R154, R155). -/

namespace Sys2Proof.Machine

open Sys2Proof

/-! ### Steers placed one after another (R154) -/

/-- The steers `f j` of the junctions of a list, placed among the waiting ones in order. -/
def placeAll (f : Junction → Steer) (js : List Junction) (ws : List WaitingSteer) : List WaitingSteer :=
  js.foldl (fun ws j => placeSteer (f j) ws) ws

/-- The junctions that the waiting steers are for, in order. -/
def steerPlaces (ws : List WaitingSteer) : List Junction := ws.map fun w => w.steer.junction

theorem steerPlaces_placeSteer (st : Steer) (ws : List WaitingSteer) :
    steerPlaces (placeSteer st ws) =
      if st.junction ∈ steerPlaces ws then steerPlaces ws else steerPlaces ws ++ [st.junction] :=
  placeSteer_junctions st ws

theorem steerPlaces_placeSteer_nodup {ws : List WaitingSteer} (h : (steerPlaces ws).Nodup) (st : Steer) :
    (steerPlaces (placeSteer st ws)).Nodup := by
  rw [steerPlaces_placeSteer]
  split
  · exact h
  · next fresh => exact List.nodup_append.2 ⟨h, List.nodup_singleton _, fun a ha b hb => by
      rw [List.mem_singleton.1 hb]
      exact ne_of_mem_of_not_mem ha fresh⟩

/-- The new steer is among the waiting ones. -/
theorem mem_placeSteer_self (st : Steer) (ws : List WaitingSteer) :
    { steer := st, losses := 0 } ∈ placeSteer st ws := by
  induction ws with
  | nil => exact List.mem_singleton_self _
  | cons w rest ih =>
    rw [placeSteer]
    split
    · exact List.mem_cons_self
    · exact List.mem_cons_of_mem _ ih

/-- A steer for another junction waits on. -/
theorem mem_placeSteer_of_ne {st : Steer} {ws : List WaitingSteer} {w : WaitingSteer} (h : w ∈ ws)
    (other : w.steer.junction ≠ st.junction) : w ∈ placeSteer st ws := by
  induction ws with
  | nil => cases h
  | cons v rest ih =>
    rw [placeSteer]
    rcases List.mem_cons.1 h with rfl | h
    · rw [if_neg other]
      exact List.mem_cons_self
    · split
      · exact List.mem_cons_of_mem _ h
      · exact List.mem_cons_of_mem _ (ih h)

/-- Where at most one steer waits for a junction, the new one is the only one for its junction. -/
theorem eq_of_mem_placeSteer {st : Steer} {ws : List WaitingSteer} (h : (steerPlaces ws).Nodup)
    {w : WaitingSteer} (hw : w ∈ placeSteer st ws) (same : w.steer.junction = st.junction) :
    w = { steer := st, losses := 0 } := by
  have distinct := steerPlaces_placeSteer_nodup h st
  exact List.inj_on_of_nodup_map distinct hw (mem_placeSteer_self st ws) same

/-- A selection of junctions among which the new steer's is not has its waiting steers kept. -/
theorem filter_placeSteer {st : Steer} {p : Junction → Bool} (h : p st.junction = false)
    (ws : List WaitingSteer) :
    (placeSteer st ws).filter (fun w => p w.steer.junction) =
      ws.filter fun w => p w.steer.junction := by
  induction ws with
  | nil => simp [placeSteer, h]
  | cons w rest ih =>
    rw [placeSteer]
    split
    · next same => simp [h, same]
    · simp [List.filter_cons, ih]

section
variable {f : Junction → Steer} {js : List Junction} {ws : List WaitingSteer}

theorem filter_placeAll (named : ∀ j, (f j).junction = j) {p : Junction → Bool}
    (h : ∀ j ∈ js, p j = false) (ws : List WaitingSteer) :
    (placeAll f js ws).filter (fun w => p w.steer.junction) =
      ws.filter fun w => p w.steer.junction := by
  induction js generalizing ws with
  | nil => rfl
  | cons j js ih =>
    rw [placeAll, List.foldl_cons, ← placeAll, ih fun i hi => h i (List.mem_cons_of_mem _ hi)]
    exact filter_placeSteer (by rw [named]; exact h j List.mem_cons_self) ws

theorem mem_placeAll_of_mem (named : ∀ j, (f j).junction = j) {j : Junction}
    (h : { steer := f j, losses := 0 } ∈ ws) : { steer := f j, losses := 0 } ∈ placeAll f js ws := by
  induction js generalizing ws with
  | nil => exact h
  | cons i js ih =>
    refine ih ?_
    by_cases same : i = j
    · exact same ▸ mem_placeSteer_self _ _
    · exact mem_placeSteer_of_ne h (by simpa [named] using Ne.symm same)

/-- Every steer placed is among the waiting ones. -/
theorem mem_placeAll (named : ∀ j, (f j).junction = j) {j : Junction} (h : j ∈ js)
    (ws : List WaitingSteer) : { steer := f j, losses := 0 } ∈ placeAll f js ws := by
  induction js generalizing ws with
  | nil => cases h
  | cons i js ih =>
    rcases List.mem_cons.1 h with rfl | h
    · exact mem_placeAll_of_mem (js := js) named (mem_placeSteer_self (f j) ws)
    · exact ih h _

/-- What waits after the steers have been placed waited before or is one of them. -/
theorem of_mem_placeAll {w : WaitingSteer} (h : w ∈ placeAll f js ws) :
    w ∈ ws ∨ ∃ j ∈ js, w = { steer := f j, losses := 0 } := by
  induction js generalizing ws with
  | nil => exact .inl h
  | cons i js ih =>
    rcases ih h with before | ⟨j, hj, rfl⟩
    · rcases placeSteer_mem before with before | rfl
      · exact .inl before
      · exact .inr ⟨i, List.mem_cons_self, rfl⟩
    · exact .inr ⟨j, List.mem_cons_of_mem _ hj, rfl⟩

/-- Where at most one steer waits for a junction, those for the junctions of the list are the new ones. -/
theorem eq_of_mem_placeAll (named : ∀ j, (f j).junction = j) (h : (steerPlaces ws).Nodup)
    {w : WaitingSteer} (hw : w ∈ placeAll f js ws) (hj : w.steer.junction ∈ js) :
    w = { steer := f w.steer.junction, losses := 0 } := by
  induction js generalizing ws with
  | nil => cases hj
  | cons i js ih =>
    by_cases later : w.steer.junction ∈ js
    · exact ih (steerPlaces_placeSteer_nodup h (f i)) hw later
    · have here : w.steer.junction = i := (List.mem_cons.1 hj).resolve_right later
      rcases of_mem_placeAll (ws := placeSteer (f i) ws) hw with before | ⟨j, hj, rfl⟩
      · rw [here]
        exact eq_of_mem_placeSteer h before (here.trans (named i).symm)
      · exact absurd (by rwa [named]) later

/-- The places of the steers that waited stay, and the junctions without one follow, each once. -/
theorem steerPlaces_placeAll (named : ∀ j, (f j).junction = j) (js : List Junction)
    (ws : List WaitingSteer) :
    ∃ added, steerPlaces (placeAll f js ws) = steerPlaces ws ++ added ∧ added.Nodup ∧
      ∀ j, j ∈ added ↔ j ∈ js ∧ j ∉ steerPlaces ws := by
  induction js generalizing ws with
  | nil => exact ⟨[], by simp [placeAll], List.nodup_nil, by simp⟩
  | cons i js ih =>
    obtain ⟨added, places, distinct, mem⟩ := ih (placeSteer (f i) ws)
    have step := steerPlaces_placeSteer (f i) ws
    rw [named] at step
    split at step
    · next waits =>
      rw [step] at places mem
      refine ⟨added, places, distinct, fun j => ?_⟩
      rw [mem, List.mem_cons]
      grind
    · next fresh =>
      rw [step] at places mem
      refine ⟨i :: added, by rw [placeAll, List.foldl_cons, ← placeAll, places]; simp, ?_, fun j => ?_⟩
      · exact List.nodup_cons.2 ⟨fun h => by simpa using ((mem i).1 h).2, distinct⟩
      · rw [List.mem_cons, mem, List.mem_append, List.mem_cons]
        grind

end

/-! ### A line on which nothing can start (R155) -/

/-- Nothing can start on the line: a frame is in flight, or the line is not FREE. -/
def LineBlocked (l : Line) : Prop := l.inFlight ≠ none ∨ l.state ≠ .free

/-- A beat that waits on an open line starts. -/
theorem startLine_beat {s : State} {b : WaitingBeat} (idle : s.line.inFlight = none)
    (free : s.line.state = .free) (waits : s.line.beat = some b) :
    startLine s = launch s { s.line with beat := none } (.beat b.seq) b.losses := by
  simp [startLine, idle, free, waits]

/-- Once a beat has been queued nothing else can start, and no steer has. -/
theorem queueBeat_blocks (s : State) :
    LineBlocked (queueBeat s).line ∧ (queueBeat s).line.steers = s.line.steers := by
  unfold queueBeat
  dsimp only
  generalize hv : State.setLine _ _ = v
  have flight : v.line.inFlight = s.line.inFlight := by simp [← hv]
  have steers : v.line.steers = s.line.steers := by simp [← hv]
  by_cases blocked : LineBlocked v.line
  · rw [startLine_stays blocked]
    exact ⟨blocked, steers⟩
  · have waits : v.line.beat = some { seq := (s.timebase.beatSeq + 1) % 256, losses := 0 } := by
      simp [← hv]
    rw [LineBlocked, not_or, not_not, not_not] at blocked
    rw [startLine_beat blocked.1 blocked.2 waits]
    exact ⟨.inl nofun, steers⟩

theorem queueBeat_flightSteers (s : State) : flightSteers (queueBeat s).line = flightSteers s.line := by
  have held : lineSteers (queueBeat s).line = lineSteers s.line := by simp
  rw [lineSteers, lineSteers, (queueBeat_blocks s).2] at held
  exact List.append_cancel_right held

/-- On a blocked line the steers of a list of junctions are placed in order, and nothing starts. -/
theorem plainSteers_blocked (js : List Junction) {s : State} (blocked : LineBlocked s.line) :
    forJunctions plainSteer js s = s.setLine
      { s.line with steers := placeAll (fun j => steerOf s j .none 0) js s.line.steers } := by
  induction js generalizing s with
  | nil => rfl
  | cons j js ih =>
    have placed : plainSteer j s = s.setLine
        { s.line with steers := placeSteer (steerOf s j .none 0) s.line.steers } := by
      unfold plainSteer queueSteer
      exact startLine_stays blocked
    rw [forJunctions, placed]
    exact ih (s := s.setLine _) blocked

theorem plainSteers_spoke (js : List Junction) (s : State) :
    Spoke s (forJunctions plainSteer js s) [] [] := by
  induction js generalizing s with
  | nil => exact .of_eq rfl rfl rfl
  | cons j js ih => exact (queueSteer_spoke j .none 0 s).trans (ih _)

end Sys2Proof.Machine
end

section
/-! The publication for the entry plan: the corridor enters RUN (R43, R49, R54, R55, R107). -/

namespace Sys2Proof.Machine

open Sys2Proof

/-! ### The entry into RUN (R54, R55) -/

/-- The target of a junction below N in the active set is the one that was computed for it (R26). -/
theorem activeTarget_computeSet {s : State} {x : Snapshot} {generation : Nat}
    (active : s.engine.active = some (computeSet x generation)) {j : Junction} (live : j.val < x.n) :
    activeTarget s j = x.target j.val := by
  simp [activeTarget, active, computeSet, live]

/-- The Timebase at the entry into RUN, before its beat takes its number (R54). -/
def entryTimebase (s : State) : Timebase :=
  { s.timebase with
    mode := .run, active := s.timebase.entry, entry := 0, cc := 0
    c := (s.store.plan s.timebase.entry).head.c, divider := some 0 }

/-- The beat queued at the entry into RUN (R54). -/
def entryBeat (s : State) : State := queueBeat (s.setTimebase (entryTimebase s))

/-- Every junction placed at the entry into RUN (R55). -/
def entryPlaced (s : State) : State := (entryBeat s).setCycles (placedCycles (entryBeat s))

/-- The state of the entry into RUN before the plan pin is compared (R54). -/
def enteredRun (s : State) : State :=
  let sent := forJunctions plainSteer (liveJunctions (entryPlaced s)) (entryPlaced s)
  queueNotice (.modeChanged .entering .run s.timebase.entry)
    (sent.setSelector { sent.selector with evalTimer := some (fullInterval sent) })

theorem enterRun_eq (s : State) : enterRun s = checkPinAtEntry (enteredRun s) := rfl

section
variable (s : State)

theorem entryBeat_store : (entryBeat s).store = s.store := by simp [entryBeat]

theorem liveJunctions_entryPlaced : liveJunctions (entryPlaced s) = liveJunctions s := by
  have count : junctionCount (entryPlaced s) = junctionCount s := by
    simp [junctionCount, entryPlaced, entryBeat_store]
  rw [liveJunctions, liveJunctions, count]

/-- What the entry into RUN makes of the blocks. -/
theorem enteredRun_eq :
    enteredRun s = { s with
      timebase := { s.timebase with
        mode := .run, active := s.timebase.entry, entry := 0, cc := 0
        c := (s.store.plan s.timebase.entry).head.c, divider := some 0
        beatSeq := (s.timebase.beatSeq + 1) % 256 }
      selector := { s.selector with evalTimer := some (10 * s.store.geometry.head.selectionInterval) }
      cycles := placedCycles (entryBeat s), line := (enteredRun s).line
      centre := (enteredRun s).centre } := by
  apply State.ext <;> simp [enteredRun, entryPlaced, entryBeat, entryTimebase, fullInterval]

theorem enteredRun_told :
    Told s (enteredRun s) [] [.modeChanged .entering .run s.timebase.entry] := by
  have entered : Told s (s.setTimebase (entryTimebase s)) [] [] :=
    Spoke.told (.of_eq rfl rfl rfl)
  have beat : Told s (entryPlaced s) [] [] := (entered.trans (queueBeat_told _)).then_eq rfl rfl rfl
  unfold enteredRun
  dsimp only
  generalize hv : forJunctions plainSteer _ _ = v
  have steers : Told s v [] [] := hv ▸ beat.trans (plainSteers_spoke _ _).told
  generalize hu : v.setSelector _ = u
  have timer : Told s u [] [] := steers.then_eq (by simp [← hu]) (by simp [← hu]) (by simp [← hu])
  exact timer.trans (queueNotice_spoke _ u).told

/-- The steers of junctions 0..N-1 are placed in order behind the beat, and none starts. -/
theorem enteredRun_line :
    (enteredRun s).line = { (entryBeat s).line with
      steers := placeAll (fun j => steerOf (enteredRun s) j .none 0) (liveJunctions s) s.line.steers } := by
  obtain ⟨blocked, steers⟩ := queueBeat_blocks (s.setTimebase (entryTimebase s))
  have steer : (fun j => steerOf (enteredRun s) j .none 0) =
      fun j => steerOf (entryPlaced s) j .none 0 := by
    funext j
    simp [steerOf, enteredRun]
  have sent := plainSteers_blocked (liveJunctions s) (s := entryPlaced s) blocked
  have waiting : (entryPlaced s).line.steers = s.line.steers := steers
  rw [waiting] at sent
  rw [steer, enteredRun, liveJunctions_entryPlaced, sent]
  simp [entryPlaced]

/-- The frames on the line at the entry into RUN: one beat behind a beat in flight, no steer started. -/
theorem enteredRun_frames :
    flightSteers (enteredRun s).line = flightSteers s.line ∧
    lineBeats (enteredRun s).line = flightBeats s.line ++ [(s.timebase.beatSeq + 1) % 256] ∧
    (enteredRun s).line.missedBeats =
      if s.line.beat.isSome then min 65535 (s.line.missedBeats + 1) else s.line.missedBeats := by
  rw [enteredRun_line]
  obtain ⟨-, -, -, -, missed, -⟩ := queueBeat_line (s.setTimebase (entryTimebase s))
  exact ⟨queueBeat_flightSteers _, queueBeat_beats _, missed⟩

/-- A junction below N is placed part-way into a cycle whose local zero falls at its target (R55). -/
theorem enteredRun_cycle {x : Snapshot} {generation : Nat}
    (active : s.engine.active = some (computeSet x generation)) {j : Junction}
    (live : j.val < junctionCount s) (inSet : j.val < x.n) :
    let r := s.store.plan s.timebase.entry
    let w := fixWindow r (gatedNow s j) j.val
    let lc := modC (0 - (x.target j.val : Int)) r.head.c
    (enteredRun s).cycles[j] =
      { plan := s.timebase.entry, lc, lcur := r.head.c
        windowEnd := if w.full then r.head.c else w.gEff
        windowOpen := decide (w.full = true ∨ (0 < w.gEff ∧ lc < w.gEff)), gEff := w.gEff
        full := w.full, gate := gatedNow s j, offsetNow := x.target j.val, targetUsed := x.target j.val
        seek := .inStep, delta := 0, lockout := 0, actionTaken := false, extension := none } := by
  intro r w lc
  have cycles : (enteredRun s).cycles = placedCycles (entryBeat s) := by rw [enteredRun_eq]
  have count : junctionCount (entryBeat s) = junctionCount s := by simp [junctionCount, entryBeat_store]
  have gated : gatedNow (entryBeat s) j = gatedNow s j := by
    rw [gatedNow, count]
    simp [gatedNow, entryBeat]
  have target : activeTarget (entryBeat s) j = x.target j.val :=
    activeTarget_computeSet (by simpa [entryBeat] using active) inSet
  have plan : (entryBeat s).timebase.active = s.timebase.entry := by simp [entryBeat, entryTimebase]
  rw [cycles, placedCycles]
  refine (Vector.getElem_ofFn j.isLt).trans ?_
  rw [if_pos (by rw [count]; exact live), placedCycle, target, gated, plan, entryBeat_store]
  cases full : w.full <;> simp [w, r, lc] at full ⊢

theorem enteredRun_cycle_beyond {j : Junction} (beyond : junctionCount s ≤ j.val) :
    (enteredRun s).cycles[j] = s.cycles[j] := by
  have count : junctionCount (entryBeat s) = junctionCount s := by simp [junctionCount, entryBeat_store]
  rw [enteredRun_eq, placedCycles]
  refine (Vector.getElem_ofFn j.isLt).trans ?_
  rw [if_neg (by rw [count]; exact beyond.not_gt)]
  simp [entryBeat]

/-- The steers of the entry into RUN (R54, R154): those for junctions at N or above stay, and every
junction below N has its own, in the place of one that waited or at the end. -/
theorem enteredRun_steers :
    (∀ j : Junction, j.val < junctionCount s →
      steerOf (enteredRun s) j .none 0 ∈ lineSteers (enteredRun s).line) ∧
    ((enteredRun s).line.steers.filter fun w => decide (junctionCount s ≤ w.steer.junction.val)) =
      (s.line.steers.filter fun w => decide (junctionCount s ≤ w.steer.junction.val)) ∧
    ((steerPlaces s.line.steers).Nodup →
      (∀ w ∈ (enteredRun s).line.steers, w.steer.junction.val < junctionCount s →
        w = { steer := steerOf (enteredRun s) w.steer.junction .none 0, losses := 0 }) ∧
      ∃ added, steerPlaces (enteredRun s).line.steers = steerPlaces s.line.steers ++ added ∧
        added.Nodup ∧
        ∀ j : Junction, j ∈ added ↔ j.val < junctionCount s ∧ j ∉ steerPlaces s.line.steers) := by
  have live : ∀ j : Junction, j ∈ liveJunctions s ↔ j.val < junctionCount s := by
    have every : ∀ j : Junction, j ∈ allJunctions := by decide
    simp [liveJunctions, every]
  have named : ∀ j, (steerOf (enteredRun s) j .none 0).junction = j := fun _ => rfl
  have steers : (enteredRun s).line.steers =
      placeAll (fun j => steerOf (enteredRun s) j .none 0) (liveJunctions s) s.line.steers :=
    congrArg Line.steers (enteredRun_line s)
  rw [lineSteers, steers]
  refine ⟨fun j hj => ?_, ?_, fun distinct => ⟨fun w hw hj => ?_, ?_⟩⟩
  · exact List.mem_append_right _ (List.mem_map_of_mem (mem_placeAll named ((live j).2 hj) _))
  · exact filter_placeAll named (p := fun j => decide (junctionCount s ≤ j.val))
      (fun j hj => by simpa using (live j).1 hj) _
  · exact eq_of_mem_placeAll named distinct hw ((live _).2 hj)
  · simpa only [live] using steerPlaces_placeAll named (liveJunctions s) s.line.steers

end

/-! ### The plan pin at the entry, and the end of the completion (R44, R107) -/

/-- The computation that runs once a completion in RUN has ended is that of the computing plan, or none. -/
theorem nextComputation_running {v : State} (running : v.timebase.mode = .run) :
    (v.engine.again = false → (nextComputation false v).engine.computing = none) ∧
    (v.engine.again = true → ∃ q role, computingRole (nextComputation false v) = some (q, role) ∧
      (nextComputation false v).engine.computing =
        some (takeSnapshot (nextComputation false v) q role)) := by
  refine ⟨fun again => nextComputation_idle (.inr (by simp [again])), fun again => ?_⟩
  obtain ⟨q, role, computing⟩ := computingRole_some (s := v) (by simp [running])
  have frame := nextComputation_frame false v
  refine ⟨q, role, ?_, ?_⟩
  · rw [computingRole_congr (s := v) (by rw [frame]), computing]
  · rw [nextComputation_owed computing (.inl again), takeSnapshot_congr q role] <;> rw [frame]

/-- The pin names the active plan, or there is none: the entry stands. -/
theorem checkPinAtEntry_stays {w : State}
    (h : ∀ q, w.selector.planPin = some q → q = w.timebase.active) : checkPinAtEntry w = w := by
  unfold checkPinAtEntry
  cases pin : w.selector.planPin with
  | none => rfl
  | some q => simp [h q pin]

section
variable {w : State} {q : Nat}

/-- The pin names another plan that is READY: it becomes pending. -/
theorem checkPinAtEntry_pends (pin : w.selector.planPin = some q) (other : q ≠ w.timebase.active)
    (isReady : ready w q = true) : checkPinAtEntry w = setPendingPlan q w := by
  simp [checkPinAtEntry, pin, other, isReady]

/-- The pin names another plan that is not READY: it is released. -/
theorem checkPinAtEntry_releases (pin : w.selector.planPin = some q) (other : q ≠ w.timebase.active)
    (unready : ready w q = false) :
    checkPinAtEntry w = w.setSelector { w.selector with planPin := none } := by
  simp [checkPinAtEntry, pin, other, unready]

/-- The cause of the new pending plan leads to one computation for it (R44, R52; log 23). -/
theorem nextComputation_setPendingPlan {x : Snapshot} (running : w.timebase.mode = .run)
    (computing : w.engine.computing = some x) (plan : q ≠ 0) :
    let u := nextComputation false (settle (setPendingPlan q w))
    u = { w with
      timebase := { w.timebase with pendingPlan := q }, engine := u.engine, causeRaised := false } ∧
    u.engine = { w.engine with
      computing := some (takeSnapshot u q .pending), again := false, void := false
      pendingSet := none } := by
  intro u
  have raised : (setPendingPlan q w).causeRaised = true := by
    simp [setPendingPlan, raiseCauseIf, raiseCause, running]
  have engine : (setPendingPlan q w).engine = { w.engine with
      void := (setPendingPlan q w).engine.void, pendingSet := none } := by
    simp [setPendingPlan]
  have timebase : (settle (setPendingPlan q w)).timebase = { w.timebase with pendingPlan := q } := by
    simp [setPendingPlan_timebase]
  have arrived := settle_cause (s := setPendingPlan q w) raised rfl
  unfold CauseArrived at arrived
  rw [timebase, engine] at arrived
  simp only [running, computing] at arrived
  have role : computingRole (settle (setPendingPlan q w)) = some (q, .pending) := by
    simp [computingRole, setPendingPlan_timebase, running, plan]
  have owed := nextComputation_owed (discarded := false) role (.inl (by rw [arrived]))
  have frame := nextComputation_frame false (settle (setPendingPlan q w))
  have flags := nextComputation_engine false (settle (setPendingPlan q w))
  refine ⟨?_, ?_⟩
  · refine frame.trans ?_
    apply State.ext <;> simp [setPendingPlan_timebase, u]
  · refine flags.trans ?_
    rw [owed, arrived, takeSnapshot_congr (s := settle (setPendingPlan q w)) (u := u)]
    all_goals simp only [u]; rw [frame]

/-- The end of the completion that enters RUN: what becomes of the plan pin, and which computation runs. -/
structure PinChecked (w u : State) : Prop where
  frame      : u = { w with
    timebase := { w.timebase with pendingPlan := u.timebase.pendingPlan }
    selector := { w.selector with planPin := u.selector.planPin }, engine := u.engine }
  generation : u.engine.generation = w.engine.generation
  active     : u.engine.active = w.engine.active
  again      : u.engine.again = false
  void       : u.engine.void = false
  stays      : (∀ q, ¬(w.selector.planPin = some q ∧ q ≠ w.timebase.active)) →
    u.selector.planPin = w.selector.planPin ∧ u.timebase.pendingPlan = w.timebase.pendingPlan ∧
    u.engine.pendingSet = w.engine.pendingSet
  pends      : ∀ q, w.selector.planPin = some q → q ≠ w.timebase.active → ready w q = true →
    u.selector.planPin = some q ∧ u.timebase.pendingPlan = q ∧ u.engine.pendingSet = none ∧
    u.engine.computing = some (takeSnapshot u q .pending)
  released   : ∀ q, w.selector.planPin = some q → q ≠ w.timebase.active → ready w q = false →
    u.selector.planPin = none ∧ u.timebase.pendingPlan = w.timebase.pendingPlan ∧
    u.engine.pendingSet = w.engine.pendingSet
  idle       : (∀ q, w.selector.planPin = some q ∧ q ≠ w.timebase.active → ready w q = false) →
    w.engine.again = false → u.engine.computing = none
  owed       : (∀ q, w.selector.planPin = some q ∧ q ≠ w.timebase.active → ready w q = false) →
    w.engine.again = true → ∃ q role, computingRole u = some (q, role) ∧
      u.engine.computing = some (takeSnapshot u q role)

theorem pinChecked {x : Snapshot} (running : w.timebase.mode = .run) (rest : w.causeRaised = false)
    (computing : w.engine.computing = some x) :
    PinChecked w (nextComputation false (settle (checkPinAtEntry w))) := by
  by_cases pinned : ∃ q, w.selector.planPin = some q ∧ q ≠ w.timebase.active
  · obtain ⟨q, pin, other⟩ := pinned
    have named : ∀ q', w.selector.planPin = some q' → q' = q := fun q' pin' =>
      Option.some.inj (pin'.symm.trans pin)
    by_cases isReady : ready w q = true
    · have plan : q ≠ 0 := by
        have := ready_isPlan isReady
        simp [isPlan] at this
        omega
      obtain ⟨frame, engine⟩ := nextComputation_setPendingPlan running computing plan
      rw [checkPinAtEntry_pends pin other isReady]
      generalize nextComputation false (settle (setPendingPlan q w)) = u at frame engine ⊢
      have timebase : u.timebase = { w.timebase with pendingPlan := q } := by rw [frame]
      have selector : u.selector = w.selector := by rw [frame]
      have kept : ¬ ∀ q, w.selector.planPin = some q ∧ q ≠ w.timebase.active → ready w q = false :=
        fun h => by simp [h q ⟨pin, other⟩] at isReady
      refine ⟨?_, by rw [engine], by rw [engine], by rw [engine], by rw [engine],
        fun h => absurd ⟨pin, other⟩ (h q), fun q' pin' _ _ => ?_, fun q' pin' _ unready => ?_,
        fun h => absurd h kept, fun h => absurd h kept⟩
      · rw [timebase, selector]
        exact frame.trans (by rw [← rest])
      · rw [named q' pin']
        exact ⟨by rw [selector, pin], by rw [timebase], by rw [engine], by rw [engine]⟩
      · rw [named q' pin'] at unready
        simp [unready] at isReady
    · have unready := Bool.eq_false_iff.2 isReady
      rw [checkPinAtEntry_releases pin other unready, settle_rest (by simpa using rest)]
      generalize hv : w.setSelector { w.selector with planPin := none } = v
      have frame := nextComputation_frame false v
      have engine := nextComputation_engine false v
      obtain ⟨idle, owed⟩ := nextComputation_running (v := v) (by simp [← hv, running])
      generalize nextComputation false v = u at frame engine idle owed ⊢
      subst hv
      refine ⟨by rw [frame]; rfl, by rw [engine]; rfl, by rw [engine]; rfl, by rw [engine],
        by rw [engine], fun h => absurd ⟨pin, other⟩ (h q), fun q' pin' _ ready' => ?_,
        fun _ _ _ _ => ⟨by rw [frame]; rfl, by rw [frame]; rfl, by rw [engine]; rfl⟩,
        fun _ => idle, fun _ => owed⟩
      rw [named q' pin'] at ready'
      exact absurd ready' isReady
  · rw [not_exists] at pinned
    have own : ∀ q, w.selector.planPin = some q → q = w.timebase.active := fun q pin =>
      not_not.1 fun other => pinned q ⟨pin, other⟩
    rw [checkPinAtEntry_stays own, settle_rest rest]
    have frame := nextComputation_frame false w
    have engine := nextComputation_engine false w
    obtain ⟨idle, owed⟩ := nextComputation_running running
    generalize nextComputation false w = u at frame engine idle owed ⊢
    exact ⟨by rw [frame], by rw [engine], by rw [engine], by rw [engine], by rw [engine],
      fun _ => ⟨by rw [frame], by rw [frame], by rw [engine]⟩, fun q pin other => absurd (own q pin) other,
      fun q pin other => absurd (own q pin) other, fun _ => idle, fun _ => owed⟩

end

/-- In ENTERING the result for the entry plan is published to the active set, and the corridor enters RUN. -/
theorem publish_entering {s : State} (entering : s.timebase.mode = .entering) (x : Snapshot) :
    let gen := (s.engine.generation + 1) % 65536
    publish x s = checkPinAtEntry
      (enteredRun (s.setEngine { s.engine with generation := gen, active := some (computeSet x gen) })) := by
  simp [publish, entering, computingRole, enterRun_eq]

/-- Settles O30: the published set, the entry into RUN block by block, then the plan pin and the end of the
completion. -/
theorem corridorEntersRun : Obligations.CorridorEntersRun := by
  intro s x running rest entering computing void plan p r set seq pinned
  have kept : discards s x = false := by simp [discards, computingPlan, computingRole, void, entering, plan]
  have done := exec_computationComplete running computing
  rw [kept, if_neg Bool.false_ne_true, publish_entering entering] at done
  generalize hs : s.setEngine { s.engine with
    generation := (s.engine.generation + 1) % 65536, active := some (computeSet x _) } = s' at done
  have active : s'.engine.active = some set := by simp [← hs, set]
  have entered := enteredRun_eq s'
  have told := enteredRun_told s'
  have cycle := @enteredRun_cycle s' x _ active
  have beyond := @enteredRun_cycle_beyond s'
  obtain ⟨flights, beats, missed⟩ := enteredRun_frames s'
  obtain ⟨sent, others, replaced⟩ := enteredRun_steers s'
  generalize hw : enteredRun s' = w at *
  have checked : PinChecked w _ := pinChecked (x := x) (by rw [entered])
    (by rw [entered]; simpa [← hs, AtRest] using rest) (by rw [entered]; simpa [← hs] using computing)
  generalize nextComputation false (settle (checkPinAtEntry w)) = u at done checked
  have line : u.line = w.line := by rw [checked.frame]
  have cycles : u.cycles = w.cycles := by rw [checked.frame]
  have centre : u.centre = w.centre := by rw [checked.frame]
  have handler : u.handler = w.handler := by rw [checked.frame]
  have toldEnd : Told s' u [] [.modeChanged .entering .run s'.timebase.entry] :=
    told.then_eq line centre handler
  have steer : ∀ j, steerOf u j .none 0 = steerOf w j .none 0 := fun j => by simp [steerOf, cycles]
  have pin : w.selector.planPin = s.selector.planPin := by rw [entered, ← hs]; rfl
  have own : w.timebase.active = p := by rw [entered, ← hs]; rfl
  have isReady : ∀ q, ready w q = ready s q := fun q => by rw [entered, ← hs]; rfl
  have pendingPlan : w.timebase.pendingPlan = s.timebase.pendingPlan := by rw [entered, ← hs]; rfl
  have engine : w.engine = { s.engine with generation := set.generation, active := some set } := by
    rw [entered, ← hs]; rfl
  obtain ⟨frame, generation, activeSet, again, void, stays, pends, released, idle, owed⟩ := checked
  simp only [pin, own, isReady, pendingPlan, engine] at generation activeSet stays pends released idle owed
  rw [← line] at flights beats missed sent others replaced
  simp only [← steer] at sent replaced
  simp only [← cycles] at cycle beyond
  subst hs
  refine ⟨u, done, frame.trans ?_, generation, activeSet, again, void, stays, fun q h => pends q h.1 h.2,
    fun q h => released q h.1 h.2, idle, owed, fun j => beyond, ?_, flights, others, replaced, beats, missed,
    toldEnd.replies.trans (List.append_nil _), toldEnd.kept, toldEnd.nothingServed, toldEnd.centreErrors,
    toldEnd.notices⟩
  · rw [cycles, line, centre, entered]
    rfl
  · intro j live inSet
    exact ⟨cycle live inSet, sent j live⟩

end Sys2Proof.Machine
end

section
/-! The Offset Seeker: what its choice can be, its bounds, and the error it leaves (R75 to R80). -/

namespace Sys2Proof.Machine

open Sys2Proof

/-! ### The greatest shortening and the choice (R77, R79) -/

/-- The shortening stays below the cycle, and a window keeps its length and S_min (R77). -/
theorem maxShort_bounds (h : PlanHead) (w : FixedWindow) (pos : 0 < h.c) (pct : h.shortPct < 100)
    (fits : w.full = false → w.gEff + h.sMin ≤ h.c) :
    maxShort h w < h.c ∧ (w.full = true → maxShort h w = 0) ∧
    (w.full = false → 0 < w.gEff → w.gEff + h.sMin + maxShort h w ≤ h.c) := by
  have share : h.c * h.shortPct / 100 < h.c := by
    rw [Nat.div_lt_iff_lt_mul (by decide)]
    exact Nat.mul_lt_mul_of_pos_left pct pos
  unfold maxShort
  cases full : w.full with
  | true => simp [pos]
  | false =>
    have room := fits full
    by_cases window : 0 < w.gEff
    · rw [if_neg Bool.false_ne_true, if_pos window]
      have side := Nat.min_le_right (h.c * h.shortPct / 100) (h.c - w.gEff - h.sMin)
      exact ⟨(Nat.min_le_left _ _).trans_lt share, nofun, fun _ _ => by omega⟩
    · simp [window, share]

/-- A count that is not infinite has a rate that is not 0 (R78). -/
theorem cyclesNeeded_eq_none (distance rate : Nat) : cyclesNeeded distance rate = none ↔ rate = 0 := by
  simp [cyclesNeeded]

/-- Everything that the seeker can choose: it stays in step, lengthens by `min e maxLen`, which is 0 where
neither way is open, or shortens by `min (C - e) maxShort` (R79). -/
theorem seekChoice_cases (h : PlanHead) (w : FixedWindow) (e : Nat) :
    (e = 0 ∧ seekChoice h w e = { seek := .inStep, delta := 0, lcur := h.c }) ∨
    seekChoice h w e =
      { seek := .lengthen, delta := (min e (maxLen h) : Nat), lcur := h.c + min e (maxLen h) } ∨
    seekChoice h w e =
      { seek := .shorten, delta := -(min (h.c - e) (maxShort h w) : Nat),
        lcur := h.c - min (h.c - e) (maxShort h w) } := by
  unfold seekChoice
  dsimp only
  split
  · next inStep => exact .inl ⟨inStep, rfl⟩
  split
  · next stuck =>
    have still : maxLen h = 0 := (cyclesNeeded_eq_none _ _).1 stuck.1
    exact .inr (.inl (by simp [still]))
  split
  · exact .inr (.inr rfl)
  · exact .inr (.inl rfl)

/-! ### The error at the next local zero (R75, R80) -/

theorem seekError_cast (target offsetNow : Nat) {c : Nat} (pos : 0 < c) :
    (seekError c target offsetNow : Int) = ((target : Int) - offsetNow) % c := modC_cast _ pos

/-- A local cycle of length C + δ moves the error by -δ, the way round counted in C. -/
theorem seekError_after {c target offsetNow lcur : Nat} {delta : Int} (pos : 0 < c)
    (length : (lcur : Int) = c + delta) :
    (seekError c target ((offsetNow + lcur) % c) : Int) =
      (seekError c target offsetNow - delta) % c := by
  rw [seekError_cast _ _ pos, seekError_cast _ _ pos]
  push_cast
  show _ ≡ _ [ZMOD c]
  calc (target : Int) - (offsetNow + lcur) % c
      ≡ target - (offsetNow + lcur) [ZMOD c] := (Int.mod_modEq _ _).sub_left _
    _ = target - offsetNow - delta - c := by rw [length]; ring
    _ ≡ target - offsetNow - delta [ZMOD c] := Int.modEq_sub_modulus_iff.2 rfl |>.symm
    _ ≡ (target - offsetNow) % c - delta [ZMOD c] := (Int.mod_modEq _ _).symm.sub_right _

/-- An error that the correction leaves inside the cycle is the error less the correction. -/
theorem seekError_after_of_lt {c target offsetNow lcur e' : Nat} {delta : Int} (pos : 0 < c)
    (length : (lcur : Int) = c + delta) (left : (e' : Int) = seekError c target offsetNow - delta)
    (inside : e' < c) : seekError c target ((offsetNow + lcur) % c) = e' := by
  have after := seekError_after (target := target) (offsetNow := offsetNow) pos length
  rw [← left, Int.emod_eq_of_lt (by omega) (by omega)] at after
  exact_mod_cast after

/-- A shortening by the whole distance meets the target. -/
theorem seekError_after_of_eq {c target offsetNow lcur : Nat} {delta : Int} (pos : 0 < c)
    (length : (lcur : Int) = c + delta) (whole : seekError c target offsetNow - delta = c) :
    seekError c target ((offsetNow + lcur) % c) = 0 := by
  have after := seekError_after (target := target) (offsetNow := offsetNow) pos length
  rw [whole, Int.emod_self] at after
  exact_mod_cast after

/-- Settles O27, by the three cases of the choice. -/
theorem seekerKeepsItsBounds : Obligations.SeekerKeepsItsBounds := by
  intro h w target offsetNow pos _ _ pct fits e k
  have inCycle : e < h.c := modC_lt _ pos
  obtain ⟨below, whenFull, whenWindowed⟩ := maxShort_bounds h w pos pct fits
  obtain ⟨length, forth, back, len, short, longer, shorter⟩ :
      (k.lcur : Int) = h.c + k.delta ∧ k.delta ≤ e ∧ -k.delta ≤ (h.c - e : Nat) ∧
      k.delta ≤ maxLen h ∧ -k.delta ≤ maxShort h w ∧ (k.seek = .lengthen → 0 ≤ k.delta) ∧
      (k.seek = .shorten → k.delta ≤ 0) := by
    obtain ⟨_, choice⟩ | choice | choice := seekChoice_cases h w e <;>
      simp only [k, choice, reduceCtorEq, false_imp_iff, true_imp_iff, and_true, true_and] <;> omega
  refine ⟨length, by omega, by omega, by omega, fun full => ?_, fun windowed window => ?_, fun way => ?_,
    fun way whole => ?_, fun way part => ?_⟩
  · have := whenFull full
    omega
  · have := whenWindowed windowed window
    omega
  · have := longer way
    exact seekError_after_of_lt pos length (by omega) (by omega)
  · have := shorter way
    exact seekError_after_of_eq pos length (by omega)
  · have := shorter way
    exact seekError_after_of_lt pos length (by omega) (by omega)

end Sys2Proof.Machine
end

section
/-! The choice of a frame on the line and its start, row by row (R155). -/

namespace Sys2Proof.Machine

open Sys2Proof

/-! ### The rows of the choice (R155) -/

/-- A frame's characters do not depend on what the port holds. -/
theorem lineFrame_setLine (s : State) (l : Line) (item : LineItem) :
    lineFrame (s.setLine l) item = lineFrame s item := by
  rcases item with _ | _ | _ | _ <;> rfl

theorem launch_setLine (s : State) (l l' : Line) (item : LineItem) (losses : Nat) :
    launch (s.setLine l) l' item losses = launch s l' item losses := by
  unfold launch
  rw [lineFrame_setLine]
  rfl

theorem launch_started (s : State) (l : Line) (item : LineItem) :
    Started s (launch s l item 0) item := rfl

section
variable {s : State} {w : WaitingSteer} {ws : List WaitingSteer} {r : WaitingReply}
  {rs : List WaitingReply}

/-- Row 2: the oldest steer, by its credit. -/
theorem startLine_steer (idle : s.line.inFlight = none) (free : s.line.state = .free)
    (noBeat : s.line.beat = none) (waits : s.line.steers = w :: ws) (credit : 0 < s.line.steerCredit) :
    startLine s = launch s { s.line with steers := ws } (.steer w.steer) w.losses := by
  simp [startLine, chooseByCredit, idle, free, noBeat, waits, credit]

/-- Row 3: the oldest frame of the REPLY queue, by its credit. -/
theorem startLine_reply (idle : s.line.inFlight = none) (free : s.line.state = .free)
    (noBeat : s.line.beat = none) (noSteer : s.line.steers = [] ∨ s.line.steerCredit = 0)
    (waits : s.line.replies = r :: rs) (credit : 0 < s.line.replyCredit) :
    startLine s = launch s { s.line with replies := rs } (.queued r.item) r.losses := by
  have chosen : chooseByCredit s s.line = chooseReply s s.line := by
    unfold chooseByCredit
    rcases noSteer with h | h
    · simp [h]
    · split <;> simp [h]
  simp [startLine, chosen, chooseReply, idle, free, noBeat, waits, credit]

/-- Row 4 with a steer waiting: the credits are refilled, and the steer goes. -/
theorem startLine_refilled_steer (idle : s.line.inFlight = none) (free : s.line.state = .free)
    (noBeat : s.line.beat = none) (waits : s.line.steers = w :: ws) (spent : s.line.steerCredit = 0)
    (noReply : s.line.replies = [] ∨ s.line.replyCredit = 0) :
    startLine s = launch s { s.line.refilled with steers := ws } (.steer w.steer) w.losses := by
  have barred : chooseByCredit s s.line = none := by
    unfold chooseByCredit chooseReply
    rcases noReply with h | h
    · simp [waits, spent, h]
    · cases s.line.replies <;> simp [waits, spent, h]
  have chosen : chooseByCredit s s.line.refilled =
      some (launch s { s.line.refilled with steers := ws } (.steer w.steer) w.losses) := by
    simp [chooseByCredit, Line.refilled, waits, Config.steerCredits]
  have refilled := congrArg (Option.getD · s) chosen
  simpa [startLine, barred, idle, free, noBeat, waits, Line.refilled] using refilled

/-- Row 4 without a steer: the credits are refilled, and the reply goes. -/
theorem startLine_refilled_reply (idle : s.line.inFlight = none) (free : s.line.state = .free)
    (noBeat : s.line.beat = none) (noSteer : s.line.steers = []) (waits : s.line.replies = r :: rs)
    (spent : s.line.replyCredit = 0) :
    startLine s = launch s { s.line.refilled with replies := rs } (.queued r.item) r.losses := by
  simp [startLine, chooseByCredit, chooseReply, idle, free, noBeat, noSteer, waits, spent,
    Config.replyCredits, Line.refilled]

theorem startLine_empty (noBeat : s.line.beat = none) (noSteer : s.line.steers = [])
    (noReply : s.line.replies = []) : startLine s = s := by
  simp [startLine, chooseByCredit, chooseReply, noBeat, noSteer, noReply]

/-- A steer that waits alone on an open line starts, whatever the credits. -/
theorem startLine_only_steer (idle : s.line.inFlight = none) (free : s.line.state = .free)
    (noBeat : s.line.beat = none) (waits : s.line.steers = [w]) (noReply : s.line.replies = []) :
    ∃ l, startLine s = launch s l (.steer w.steer) w.losses := by
  rcases Nat.eq_zero_or_pos s.line.steerCredit with spent | credit
  · exact ⟨_, startLine_refilled_steer idle free noBeat waits spent (.inl noReply)⟩
  · exact ⟨_, startLine_steer idle free noBeat waits credit⟩

end

/-! ### The line becomes FREE (R151, R155) -/

/-- A gap without characters shows no fault. -/
theorem gapFault_nil (s : State) : gapFault s [] = s := by simp [gapFault, takesFrame, namesUnit]

theorem exec_lineFree_busy {s : State} (running : s.inReset = false) (busy : s.line.state = .busy) :
    exec (.lineFree []) s = .next (startLine (s.setLine { s.line with state := .free })) := by
  refine congrArg Host.Outcome.next ((whenRunning_running (lineFree []) running).trans ?_)
  simp [lineFree, gapFault_nil, busy]

theorem exec_lineFree_stays {s : State} (running : s.inReset = false) (busy : s.line.state = .busy)
    (stays : startLine (s.setLine { s.line with state := .free }) =
      s.setLine { s.line with state := .free }) :
    exec (.lineFree []) s = .next { s with line := { s.line with state := .free } } := by
  rw [exec_lineFree_busy running busy, stays]
  rfl

/-- The frame that the choice names starts, formed from the state in which the line became FREE (R71, R73). -/
theorem exec_lineFree_starts {s : State} {l : Line} {item : LineItem} {losses : Nat}
    (running : s.inReset = false) (busy : s.line.state = .busy)
    (chosen : startLine (s.setLine { s.line with state := .free }) =
      launch (s.setLine { s.line with state := .free }) l item losses) :
    exec (.lineFree []) s = .next { s with line := { l with
      inFlight := some { item, losses, orphaned := false, chars := (lineFrame s item).chars } } } := by
  rw [exec_lineFree_busy running busy, chosen, launch_setLine]
  rfl

end Sys2Proof.Machine
end

section
/-! What starts does not wait: every command keeps it so that on a FREE line with no frame in flight nothing
waits (R155). -/

namespace Sys2Proof.Machine

open Sys2Proof

/-- If nothing waited in `s` where it could have started, nothing does in `u`. -/
def LineGoesOn (s u : State) : Prop := LineGoes s → LineGoes u

section
variable {s u v : State}

theorem LineGoesOn.trans (h : LineGoesOn s v) (h' : LineGoesOn v u) : LineGoesOn s u := fun goes =>
  h' (h goes)

theorem LineGoesOn.of_eq (reset : u.inReset = s.inReset) (line : u.line = s.line) : LineGoesOn s u := by
  simp [LineGoesOn, LineGoes, reset, line]

theorem LineGoesOn.refl (s : State) : LineGoesOn s s := id

theorem LineGoesOn.then_eq (h : LineGoesOn s v) (reset : u.inReset = v.inReset)
    (line : u.line = v.line) : LineGoesOn s u := h.trans (.of_eq reset line)

/-- Nothing is asked of a line that is not FREE. -/
theorem lineGoes_of_closed (closed : u.line.state ≠ .free) : LineGoes u := fun _ free => absurd free closed

/-! ### The operations that queue a frame or empty a queue (R154, R161) -/

theorem startLine_goesOn (s v : State) : LineGoesOn s (startLine v) := fun _ => startLine_goes v

theorem queueReply_goesOn (p : Port) (f : Frame) (c : ReplyCode) (r : List Byte) (s : State) :
    LineGoesOn s (queueReply p f c r s) := by
  cases p with
  | line => exact startLine_goesOn _ _
  | centre => exact .of_eq (by simp [queueReply]) (by simp [queueReply])

theorem emptySteers_goesOn (s : State) : LineGoesOn s (emptySteers s) := by
  intro goes running free idle
  have held := goes running free (by simpa [emptySteers] using idle)
  exact ⟨held.1, rfl, held.2.2⟩

theorem sendOutcome_goesOn (e : PriorityEntry) (o : CallOutcome) (s : State) :
    LineGoesOn s (sendOutcome e o s) := by
  unfold sendOutcome
  repeat' split
  · exact .refl s
  · exact startLine_goesOn _ _
  · exact .refl s

/-! ### Entries that leave the priority list, and evaluations (R127, R131, R134) -/

theorem removeEntry_goesOn (e : PriorityEntry) (o : CallOutcome) (s : State) :
    LineGoesOn s (removeEntry e o s) := by
  unfold removeEntry
  dsimp only
  generalize hv : s.setPriority _ = v
  have removed : LineGoesOn s v := hv ▸ .of_eq rfl rfl
  exact (removed.trans (sendOutcome_goesOn e o v)).then_eq (by simp) (by simp)

theorem removeAll_goesOn (o : CallOutcome) (es : List PriorityEntry) (s : State) :
    LineGoesOn s (removeAll o es s) := by
  induction es generalizing s with
  | nil => exact .refl s
  | cons e rest ih => exact (removeEntry_goesOn e o s).trans (ih _)

theorem dropEntries_goesOn (picks : PriorityEntry → Bool) (r : DropReason) (s : State) :
    LineGoesOn s (dropEntries picks r s) := removeAll_goesOn _ _ s

theorem serveEntries_goesOn (j : Junction) (es : List PriorityEntry) (s : State) :
    LineGoesOn s (serveEntries j es s) := by
  induction es generalizing s with
  | nil => exact .refl s
  | cons e rest ih =>
    unfold serveEntries
    dsimp only
    split
    · exact (removeEntry_goesOn e _ s).trans (ih _)
    · exact (startLine_goesOn s _).trans (removeEntry_goesOn e _ _)
    · exact (startLine_goesOn s _).trans (removeEntry_goesOn e _ _)
    · exact ih s

theorem evaluate_goesOn (j : Junction) (s : State) : LineGoesOn s (evaluate j s) := by
  unfold evaluate
  split
  · exact serveEntries_goesOn j _ s
  · exact .refl s

theorem closeWindow_goesOn (j : Junction) (s : State) : LineGoesOn s (closeWindow j s) := by
  unfold closeWindow
  generalize hv : setCycle s j _ = v
  have closed : LineGoesOn s v := hv ▸ .of_eq (by simp) (by simp)
  exact closed.trans (evaluate_goesOn j v)

theorem cutExtension_goesOn (j : Junction) (e : Extension) (s : State) :
    LineGoesOn s (cutExtension j e s) := by
  unfold cutExtension
  dsimp only
  generalize hv : queueSteer j .cut _ _ = v
  have cut : LineGoesOn s v := hv ▸ startLine_goesOn s _
  split
  · exact (cut.then_eq (by simp) (by simp)).trans (closeWindow_goesOn j _)
  · exact cut.then_eq (by simp) (by simp)

/-! ### Reports and period ends (R141, R143, R145) -/

theorem acceptReport_goesOn (j : Junction) (b : ReportBody) (s : State) :
    LineGoesOn s (acceptReport j b s) := by
  unfold acceptReport
  dsimp only
  generalize hv : gateReport j b _ = v
  have measured : LineGoesOn s v := hv ▸ .of_eq (by simp) (by simp)
  generalize hw : (if b.following = true then v else dropEntries _ .notFollowing v) = w
  have dropped : LineGoesOn s w := by
    rw [← hw]
    split
    · exact measured
    · exact measured.trans (dropEntries_goesOn _ _ v)
  split
  · exact dropped.then_eq (by simp [junctionNotice]) (by simp [junctionNotice])
  · exact dropped

theorem periodEndFor_goesOn (j : Junction) (s : State) : LineGoesOn s (periodEndFor j s) := by
  unfold periodEndFor enterLost
  dsimp only
  split
  · generalize hv : gateLost j _ = v
    have cleared : LineGoesOn s v := hv ▸ .of_eq (by simp) (by simp)
    have dropped := cleared.trans (dropEntries_goesOn (fun e => decide (e.junction = j)) .lost v)
    exact dropped.then_eq (by simp [junctionNotice]) (by simp [junctionNotice])
  · exact .of_eq (by simp) (by simp)

theorem forJunctions_goesOn {act : Junction → State → State} (each : ∀ j v, LineGoesOn v (act j v))
    (js : List Junction) (s : State) : LineGoesOn s (forJunctions act js s) := by
  induction js generalizing s with
  | nil => exact .refl s
  | cons j rest ih => exact (each j s).trans (ih _)

/-! ### The Timebase (R54, R56, R57, R59, R173) -/

theorem stopCoordination_goesOn (r : DropReason) (s : State) :
    LineGoesOn s (stopCoordination r s) := by
  unfold stopCoordination
  dsimp only
  generalize hv : State.setDue _ _ = v
  have held : LineGoesOn s v := hv ▸ .of_eq (by simp) (by simp)
  have dropped := (held.trans (emptySteers_goesOn v)).trans (dropEntries_goesOn (fun _ => true) r _)
  exact dropped.then_eq (by simp) (by simp)

theorem holdEffects_goesOn (s : State) : LineGoesOn s (holdEffects s) := by
  unfold holdEffects
  exact (startLine_goesOn s _).then_eq (queueNotice_frame _ _).1 (by simp [queueBeat])

theorem emptyBeat_goesOn (s : State) : LineGoesOn s (emptyBeat s) := fun goes running free idle =>
  ⟨rfl, (goes running free idle).2⟩

theorem engineReset_goesOn (s : State) : LineGoesOn s (engineReset s) := by
  have stopped := (emptyBeat_goesOn s).trans (stopCoordination_goesOn .engineReset _)
  have reset : LineGoesOn s (resetCoordination s) := by
    unfold resetCoordination
    dsimp only
    split
    · exact stopped
    · exact (startLine_goesOn s _).then_eq (queueNotice_frame _ _).1 (by simp [queueBeat])
  exact reset.then_eq (by simp) (engineReset_line s)

/-- The entry into RUN: the beat, then the steers (R54). -/
theorem enterRun_goesOn (s : State) : LineGoesOn s (enterRun s) := by
  rw [enterRun_eq]
  have placed : LineGoesOn s (entryPlaced s) :=
    (startLine_goesOn s _).then_eq (u := entryPlaced s) rfl rfl
  have steered := placed.trans (forJunctions_goesOn (act := plainSteer)
    (fun _ v => startLine_goesOn v _) (liveJunctions (entryPlaced s)) _)
  exact steered.then_eq (by simp [enteredRun]) (by simp [enteredRun])

theorem completeComputation_goesOn (x : Snapshot) (s : State) :
    LineGoesOn s (completeComputation x s) := by
  have entering : ∀ v, LineGoesOn s v →
      LineGoesOn s (if s.timebase.mode = .entering then enterRun v else v) := by
    intro v stored
    split
    · exact stored.trans (enterRun_goesOn v)
    · exact stored
  have published : LineGoesOn s (publish x s) := by
    unfold publish
    dsimp only
    refine entering _ ?_
    split <;> exact .of_eq rfl rfl
  have arrived : LineGoesOn s (settle (if discards s x then s else publish x s)) := by
    refine LineGoesOn.then_eq (v := if discards s x then s else publish x s) ?_ (by simp) (by simp)
    split
    · exact .refl s
    · exact published
  show LineGoesOn s (nextComputation (discards s x) _)
  rw [nextComputation_frame]
  exact arrived.then_eq rfl rfl

theorem boundary_goesOn (s : State) : LineGoesOn s (boundary s) := by
  unfold boundary switchPlan
  dsimp only
  repeat' split
  · exact .refl s
  · generalize hv : setLiveBias _ _ = v
    have switched : LineGoesOn s v := hv ▸ .of_eq (by simp) (by simp)
    generalize hp : (fun e : PriorityEntry => !permits _ e.junction e.direction) = picks
    exact (switched.trans (dropEntries_goesOn picks .plan v)).then_eq (by simp) (by simp)
  · exact .refl s

/-! ### Requests (R165, R166) -/

theorem takeFrame_goesOn (p : Port) (s : State) : LineGoesOn s (takeFrame p s) := by
  cases p <;> exact id

theorem answered_goesOn (s : State) (t : Taken) (c : ReplyCode) (r : List Byte) :
    LineGoesOn s (answered s t c r) := (takeFrame_goesOn t.port s).trans (queueReply_goesOn _ _ _ _ _)

theorem serve_goesOn {α : Type} {k : RequestKind} {parse : List Byte → Option α}
    {answer : Taken → α → State → Answer} {effect : Taken → α → State → State}
    (effects : ∀ t body v, LineGoesOn v (effect t body v)) (s : State) :
    LineGoesOn s (serve k parse answer effect s) := by
  obtain e | ⟨t, _, _, ⟨c, _, e⟩ | ⟨body, r, _, _, _, _, e⟩⟩ :=
    serve_cases (k := k) (parse := parse) (answer := answer) (effect := effect) (s := s) <;> rw [e]
  · exact .refl s
  · exact answered_goesOn s t c []
  · exact ((answered_goesOn s t .ok r).trans (effects t body _)).then_eq (by simp) (by simp)

theorem serveUnknown_goesOn (s : State) : LineGoesOn s (serveUnknown s) := by
  unfold serveUnknown
  repeat' split
  · exact .refl s
  · exact answered_goesOn s _ _ _
  · exact .refl s

section
variable (t : Taken) (v : State)

theorem effectReport_goesOn (b : ReportBody) : LineGoesOn v (effectReport t b v) := by
  unfold effectReport
  split
  · exact acceptReport_goesOn _ b v
  · exact .refl v

theorem effectCall_goesOn (b : CallBody) : LineGoesOn v (effectCall t b v) := by
  unfold effectCall
  split
  · exact (LineGoesOn.of_eq (by simp) (by simp)).trans (evaluate_goesOn _ (v.setPriority _))
  · exact .refl v

theorem effectCancel_goesOn (b : CancelBody) : LineGoesOn v (effectCancel t b v) := by
  unfold effectCancel
  repeat' split
  · exact removeEntry_goesOn _ _ v
  · exact cutExtension_goesOn _ _ v
  · exact .refl v
  · exact .refl v

theorem effectStatus_goesOn (b : StatusBody) : LineGoesOn v (effectStatus t b v) := by
  unfold effectStatus
  split <;> exact id

theorem retainPlan_goesOn (p : Nat) (record : Fin 24 → RetentionRecord) (store : Store) :
    LineGoesOn v (retainPlan p record (v.setStore store)) := by
  unfold retainPlan
  split <;> exact id

theorem effectPlanCheck_goesOn (p : Nat) : LineGoesOn v (effectPlanCheck t p v) := by
  unfold effectPlanCheck
  dsimp only
  split
  · exact id
  · exact retainPlan_goesOn v _ _ _

theorem effectGeometryHeadWrite_goesOn (h : GeometryHead) :
    LineGoesOn v (effectGeometryHeadWrite t h v) :=
  .of_eq (by simp [effectGeometryHeadWrite, startRetention])
    (by simp [effectGeometryHeadWrite, startRetention])

theorem effectGeometryCheck_goesOn (b : Unit) : LineGoesOn v (effectGeometryCheck t b v) := by
  unfold effectGeometryCheck
  dsimp only
  split <;> exact id

theorem effectSelectionWrite_goesOn (b : SelectionWrite) :
    LineGoesOn v (effectSelectionWrite t b v) := by
  unfold effectSelectionWrite
  split <;> exact id

theorem effectPinPlan_goesOn (p : Nat) : LineGoesOn v (effectPinPlan t p v) := by
  unfold effectPinPlan
  split <;> exact .of_eq (by simp) (by simp)

theorem effectPinBias_goesOn (n : Nat) : LineGoesOn v (effectPinBias t n v) := by
  unfold effectPinBias
  split <;> exact .of_eq (by simp) (by simp)

end

/-! ### Events -/

theorem whenRunning_goesOn {act : State → State} (h : LineGoesOn s (act s)) :
    LineGoesOn s (whenRunning act s) := by
  unfold whenRunning
  split
  · exact .refl s
  · exact h

/-- After a restart the line is BUSY until it has been recessive (R149, R170). -/
theorem startDecision_restart_goes (s : State) : LineGoes (startDecision (restart s)) := by
  have busy : (startDecision (restart s)).line.state = .busy := by
    unfold startDecision
    dsimp only
    split
    · simp [restart, Line.initial]
    · rfl
  exact lineGoes_of_closed (by simp [busy])

section
variable (s : State)

theorem resetUnitNow_goesOn (pins : Straps) : LineGoesOn s (resetUnitNow pins s) := by
  unfold resetUnitNow hardwareReset
  repeat' split
  · exact .refl s
  · exact fun _ => startDecision_restart_goes _
  · exact fun _ => startDecision_restart_goes s

theorem cycleBoundary_goesOn : LineGoesOn s (cycleBoundary s) := by
  unfold cycleBoundary
  split
  · generalize hv : s.setDue _ = v
    have taken : LineGoesOn s v := hv ▸ .of_eq rfl rfl
    exact (taken.trans (boundary_goesOn v)).then_eq (by simp) (by simp)
  · exact .refl s

theorem localZero_goesOn (j : Junction) : LineGoesOn s (localZero j s) := by
  unfold localZero
  split
  · dsimp only
    generalize hv : plainSteer j _ = v
    have placed : LineGoesOn s v := hv ▸ startLine_goesOn s _
    exact (placed.trans (evaluate_goesOn j v)).then_eq (by simp) (by simp)
  · exact .refl s

theorem windowClose_goesOn (j : Junction) : LineGoesOn s (windowClose j s) := by
  unfold windowClose
  split
  · exact (closeWindow_goesOn j s).then_eq (by simp) (by simp)
  · exact .refl s

theorem beatNow_goesOn : LineGoesOn s (beatNow s) := by
  unfold beatNow
  split
  · exact startLine_goesOn s _
  · exact .refl s

theorem selectorEvaluation_goesOn : LineGoesOn s (selectorEvaluation s) := by
  unfold selectorEvaluation
  split <;> exact .of_eq (by simp) (by simp)

theorem pinLapse_goesOn : LineGoesOn s (pinLapse s) := by
  unfold pinLapse
  split <;> exact .of_eq (by simp) (by simp)

theorem periodEnd_goesOn : LineGoesOn s (periodEnd s) := by
  unfold periodEnd
  dsimp only
  split
  · generalize hv : s.setDue _ = v
    have taken : LineGoesOn s v := hv ▸ .of_eq rfl rfl
    have ended := forJunctions_goesOn periodEndFor_goesOn (liveJunctions v) v
    exact (taken.trans ended).then_eq (by simp) (by simp)
  · exact .refl s

theorem expireEntry_goesOn (j : Junction) (tag : Nat) : LineGoesOn s (expireEntry j tag s) := by
  unfold expireEntry
  repeat' split
  · exact removeEntry_goesOn _ _ s
  · exact .refl s
  · exact .refl s

theorem completeRetention_goesOn : LineGoesOn s (completeRetention s) := by
  unfold completeRetention
  split <;> exact id

theorem computationDone_goesOn : LineGoesOn s (computationDone s) := by
  unfold computationDone
  split
  · exact .refl s
  · exact completeComputation_goesOn _ s

theorem tick_goesOn : LineGoesOn s (tick s) := by
  unfold tick
  repeat' split
  all_goals exact .of_eq (by simp [tickRun, tickClocks]) (by simp [tickRun, tickClocks])

theorem lineBusy_goesOn : LineGoesOn s (lineBusy s) := by
  unfold lineBusy
  split
  · exact fun _ => lineGoes_of_closed (by simp)
  · exact .refl s

theorem lineFree_goesOn (chars : List Byte) : LineGoesOn s (lineFree chars s) := by
  unfold lineFree
  split
  · exact .refl s
  · exact startLine_goesOn s _

theorem lineFault_goesOn : LineGoesOn s (lineFault s) := by
  unfold lineFault
  split
  · exact fun _ => lineGoes_of_closed (by simp)
  · exact .refl s

theorem lineReceive_goesOn (chars : List Byte) : LineGoesOn s (lineReceive chars s) := by
  unfold lineReceive placeLineFrame
  repeat' split
  all_goals exact id

theorem centreReceive_goesOn (chars : List Byte) : LineGoesOn s (centreReceive chars s) := by
  unfold centreReceive placeCentreFrame
  repeat' split
  all_goals exact id

theorem lineDiscard_goesOn (f : RxFault) (chars : List Byte) : LineGoesOn s (lineDiscard f chars s) := by
  unfold lineDiscard
  split <;> exact id

theorem centreDiscard_goesOn (f : RxFault) (chars : List Byte) :
    LineGoesOn s (centreDiscard f chars s) := by
  unfold centreDiscard
  split <;> exact id

theorem centreComplete_goesOn : LineGoesOn s (centreComplete s) := by
  unfold centreComplete
  split <;> exact .of_eq (by simp) (by simp)

/-- The end of the unit's own frame leaves the line state (R156). -/
theorem frameComplete_state : (frameComplete s).line.state = s.line.state := by
  unfold frameComplete
  split
  · rfl
  · next f _ => cases item : f.item <;> rfl

theorem returnLost_state (item : LineItem) (losses : Nat) (l : Line) :
    (returnLost item losses l).state = l.state := by
  unfold returnLost
  repeat' split
  all_goals rfl

/-- The loss of the unit's own frame leaves the line state (R157). -/
theorem arbitrationLoss_state : (arbitrationLoss s).line.state = s.line.state := by
  unfold arbitrationLoss
  dsimp only
  repeat' split
  · rfl
  · rfl
  · next f _ _ _ => cases item : f.item <;> rfl
  · exact returnLost_state _ _ _

end

end

/-- Every command keeps it so that nothing waits where it could start, but for the end of the unit's own frame
on a line still FREE (R155). -/
theorem exec_goesOn {c : Instr} {s u : State} (h : exec c s = .next u)
    (ends : c = .frameComplete ∨ c = .arbitrationLoss → s.line.state ≠ .free) : LineGoesOn s u := by
  cases c with
  | report =>
    obtain rfl := next_inj h
    exact serve_goesOn (fun t b v => effectReport_goesOn t v b) s
  | priorityCall =>
    obtain rfl := next_inj h
    exact serve_goesOn (fun t b v => effectCall_goesOn t v b) s
  | priorityCancel =>
    obtain rfl := next_inj h
    exact serve_goesOn (fun t b v => effectCancel_goesOn t v b) s
  | readStatus =>
    obtain rfl := next_inj h
    exact serve_goesOn (fun t b v => effectStatus_goesOn t v b) s
  | readJunction | readBand | readPlanHead | readPlanGroup | readGeometryHead | readGeometryGroup
  | readSelection =>
    obtain rfl := next_inj h
    exact serve_goesOn (effect := noEffect) (fun _ _ v => .refl v) s
  | writeGeometryGroup =>
    obtain rfl := next_inj h
    exact serve_goesOn (effect := effectGeometryGroupWrite) (fun _ _ _ => .of_eq rfl rfl) s
  | resetUnit =>
    obtain rfl := next_inj h
    exact serve_goesOn (effect := effectResetUnit) (fun _ _ _ => .of_eq rfl rfl) s
  | writePlanHead | writePlanGroup | erasePlan =>
    obtain rfl := next_inj h
    exact serve_goesOn (fun _ _ v => retainPlan_goesOn v _ _ _) s
  | checkPlan =>
    obtain rfl := next_inj h
    exact serve_goesOn (fun t p v => effectPlanCheck_goesOn t v p) s
  | writeGeometryHead =>
    obtain rfl := next_inj h
    exact serve_goesOn (fun t b v => effectGeometryHeadWrite_goesOn t v b) s
  | checkGeometry =>
    obtain rfl := next_inj h
    exact serve_goesOn (fun t b v => effectGeometryCheck_goesOn t v b) s
  | writeSelection =>
    obtain rfl := next_inj h
    exact serve_goesOn (fun t b v => effectSelectionWrite_goesOn t v b) s
  | pinPlan =>
    obtain rfl := next_inj h
    exact serve_goesOn (fun t p v => effectPinPlan_goesOn t v p) s
  | pinBias =>
    obtain rfl := next_inj h
    exact serve_goesOn (fun t n v => effectPinBias_goesOn t v n) s
  | releaseHold =>
    obtain rfl := next_inj h
    exact serve_goesOn (effect := effectRelease)
      (fun _ _ _ => .of_eq (by simp [effectRelease]) (by simp [effectRelease])) s
  | enterHold =>
    obtain rfl := next_inj h
    exact serve_goesOn (fun _ _ v => holdEffects_goesOn v) s
  | resetEngine =>
    obtain rfl := next_inj h
    exact serve_goesOn (fun _ _ v => engineReset_goesOn v) s
  | unknownKind =>
    obtain rfl := next_inj h
    exact serveUnknown_goesOn s
  | resetNAssert =>
    obtain rfl := next_inj h
    exact fun _ running => absurd running (by simp [assertReset])
  | hardwareReset pins =>
    obtain rfl := next_inj h
    exact fun _ => startDecision_restart_goes (s.setStraps pins)
  | resetUnitTakesEffect pins =>
    obtain rfl := next_inj h
    exact whenRunning_goesOn (resetUnitNow_goesOn s pins)
  | cycleBoundary =>
    obtain rfl := next_inj h
    exact whenRunning_goesOn (cycleBoundary_goesOn s)
  | localZero j =>
    obtain ⟨i, rfl⟩ := next_of_junction (act := localZero) h
    exact whenRunning_goesOn (localZero_goesOn s i)
  | windowClose j =>
    obtain ⟨i, rfl⟩ := next_of_junction (act := windowClose) h
    exact whenRunning_goesOn (windowClose_goesOn s i)
  | beatDue =>
    obtain rfl := next_inj h
    exact whenRunning_goesOn (beatNow_goesOn s)
  | evaluation =>
    obtain rfl := next_inj h
    exact whenRunning_goesOn (selectorEvaluation_goesOn s)
  | pinLapse =>
    obtain rfl := next_inj h
    exact whenRunning_goesOn (pinLapse_goesOn s)
  | periodEnd =>
    obtain rfl := next_inj h
    exact whenRunning_goesOn (periodEnd_goesOn s)
  | priorityExpiry j tag =>
    obtain ⟨i, rfl⟩ := next_of_junction (act := fun j => expireEntry j tag) h
    exact whenRunning_goesOn (expireEntry_goesOn s i tag)
  | retentionComplete =>
    obtain rfl := next_inj h
    exact whenRunning_goesOn (completeRetention_goesOn s)
  | computationComplete =>
    obtain rfl := next_inj h
    exact whenRunning_goesOn (computationDone_goesOn s)
  | decisecondTick =>
    obtain rfl := next_inj h
    exact whenRunning_goesOn (tick_goesOn s)
  | lineBusy =>
    obtain rfl := next_inj h
    exact whenRunning_goesOn (lineBusy_goesOn s)
  | lineFree chars =>
    obtain rfl := next_inj h
    exact whenRunning_goesOn (lineFree_goesOn s chars)
  | lineFault =>
    obtain rfl := next_inj h
    exact whenRunning_goesOn (lineFault_goesOn s)
  | frameComplete =>
    obtain rfl := next_inj h
    have closed := ends (.inl rfl)
    exact whenRunning_goesOn fun _ => lineGoes_of_closed (by rwa [frameComplete_state])
  | arbitrationLoss =>
    obtain rfl := next_inj h
    have closed := ends (.inr rfl)
    exact whenRunning_goesOn fun _ => lineGoes_of_closed (by rwa [arbitrationLoss_state])
  | lineFrameReceived chars =>
    obtain rfl := next_inj h
    exact whenRunning_goesOn (lineReceive_goesOn s chars)
  | lineFrameDiscarded f chars =>
    obtain rfl := next_inj h
    exact whenRunning_goesOn (lineDiscard_goesOn s f chars)
  | centreFrameReceived chars =>
    obtain rfl := next_inj h
    exact whenRunning_goesOn (centreReceive_goesOn s chars)
  | centreFrameDiscarded f chars =>
    obtain rfl := next_inj h
    exact whenRunning_goesOn (centreDiscard_goesOn s f chars)
  | centreFrameComplete =>
    obtain rfl := next_inj h
    exact whenRunning_goesOn (centreComplete_goesOn s)

/-- Settles O51: the rows of the choice, then every command. -/
theorem lineChoosesAFrame : Obligations.LineChoosesAFrame := by
  refine ⟨fun s running busy => ⟨fun flying => ?_, fun idle => ⟨fun b waits => ?_, fun noBeat =>
    ⟨fun w ws waits credit => ?_, fun r rs waits noSteer credit => ?_, fun w ws waits spent noReply => ?_,
      fun r rs waits noSteer spent => ?_, fun noSteer noReply => ?_⟩⟩⟩,
    fun c s u h goes ends => exec_goesOn h ends goes⟩
  · exact exec_lineFree_stays running busy (startLine_stays (.inl flying))
  · exact exec_lineFree_starts running busy (startLine_beat idle rfl waits)
  · exact exec_lineFree_starts running busy (startLine_steer idle rfl noBeat waits credit)
  · exact exec_lineFree_starts running busy (startLine_reply idle rfl noBeat noSteer waits credit)
  · exact exec_lineFree_starts running busy (startLine_refilled_steer idle rfl noBeat waits spent noReply)
  · exact exec_lineFree_starts running busy (startLine_refilled_reply idle rfl noBeat noSteer waits spent)
  · exact exec_lineFree_stays running busy (startLine_empty noBeat noSteer noReply)

end Sys2Proof.Machine
end

section
/-! The events of the corridor cycle: what an event without its occasion does, the beat, the decisecond, the
close of a window and the local zero (R58, R62 to R70). -/

namespace Sys2Proof.Machine

open Sys2Proof

/-! ### Events without their occasion (log 2) -/

/-- An event that changes nothing in the running unit changes nothing in reset either. -/
theorem whenRunning_idle {act : State → State} {s : State} (idle : act s = s) :
    whenRunning act s = s := by
  unfold whenRunning
  split
  · rfl
  · exact idle

theorem next_idle {act : State → State} {s : State} (idle : act s = s) :
    (.next (whenRunning act s) : Host.Outcome State Fault Refusal) = .next s :=
  congrArg _ (whenRunning_idle idle)

section
variable (j : Junction) (s : State)

theorem exec_localZero : exec (.localZero j.val) s = .next (whenRunning (localZero j) s) := by
  simp [exec, execLocalZero]

theorem exec_windowClose : exec (.windowClose j.val) s = .next (whenRunning (windowClose j) s) := by
  simp [exec, execWindowClose]

theorem exec_priorityExpiry (tag : Nat) :
    exec (.priorityExpiry j.val tag) s = .next (whenRunning (expireEntry j tag) s) := by
  simp [exec, execPriorityExpiry]

end

/-- An event of a junction record that the unit does not have stops (R60; log 31). -/
theorem exec_noSuchJunction {j : Nat} (beyond : 12 ≤ j) (s : State) (tag : Nat) :
    exec (.localZero j) s = .fault .noSuchJunction ∧ exec (.windowClose j) s = .fault .noSuchJunction ∧
    exec (.priorityExpiry j tag) s = .fault .noSuchJunction := by
  simp [exec, execLocalZero, execWindowClose, execPriorityExpiry, junctionAt_none beyond]

/-- A window close needs RUN and a window at its end (R62, R68). -/
theorem windowClose_idle {j : Junction} {s : State}
    (stands : ¬(s.timebase.mode = .run ∧ WindowAtEnd s.cycles[j])) : windowClose j s = s := by
  unfold windowClose
  rw [if_neg]
  rwa [closeDue_iff]

/-- An expiry needs a listed entry of its key at its expiry time (R135). -/
theorem expireEntry_idle {j : Junction} {tag : Nat} {s : State}
    (unexpired : ∀ e ∈ s.priority.list, e.junction = j → e.tag = tag → ¬ EntryAtExpiry s e) :
    expireEntry j tag s = s := by
  unfold expireEntry
  split
  · next e found =>
    have key : e.junction = j ∧ e.tag = tag := by simpa [hasKey] using List.find?_some found
    rw [if_neg]
    rw [expired_iff]
    exact unexpired e (List.mem_of_find?_eq_some found) key.1 key.2
  · rfl

section
variable {s : State} {k : Option RequestKind}

/-- A request row whose kind the next frame does not carry serves nothing (R165). -/
theorem serve_otherKind {α : Type} {k : RequestKind} {parse : List Byte → Option α}
    {answer : Taken → α → State → Answer} {effect : Taken → α → State → State}
    (other : ∀ t, nextFrame s = some t → kindOf t.frame.kind ≠ some k) :
    serve k parse answer effect s = s := by
  obtain e | ⟨t, next, kind, _⟩ :=
    serve_cases (k := k) (parse := parse) (answer := answer) (effect := effect) (s := s)
  · exact e
  · exact absurd kind (other t next)

theorem serveUnknown_otherKind (other : ∀ t, nextFrame s = some t → kindOf t.frame.kind ≠ none) :
    serveUnknown s = s := by
  unfold serveUnknown
  split
  · rfl
  · next t next => rw [if_neg (other t next)]

theorem exec_otherKind (other : ∀ t, nextFrame s = some t → kindOf t.frame.kind ≠ k) :
    exec (commandOf k) s = .next s := by
  cases k with
  | none => exact congrArg Host.Outcome.next (serveUnknown_otherKind other)
  | some k => cases k <;> exact congrArg Host.Outcome.next (serve_otherKind other)

end

/-- Settles O3: each event finds its occasion missing. -/
theorem nothingDueChangesNothing : Obligations.NothingDueChangesNothing := by
  refine ⟨fun s => ⟨?emptyQueue, ?boundary, ?localZero, ?windowClose, ?beat, ?evaluation, ?lapse,
    ?periodEnd, ?expiry, ?retention, ?computation, ?flight, ?centre, ?reset, ?busy, ?fault, ?free, ?tick,
    ?request⟩, fun s j tag beyond => exec_noSuchJunction beyond s tag⟩
  case emptyQueue => intro h; simp [step, h]
  case boundary => exact fun h => next_idle (by simp [cycleBoundary, h])
  case localZero =>
    exact fun j h => (exec_localZero j s).trans (next_idle (by simp [localZero, h]))
  case windowClose =>
    refine fun j h => (exec_windowClose j s).trans (next_idle (windowClose_idle ?_))
    rintro ⟨run, opened, notFull, atEnd⟩
    rcases h with stopped | closed | full | below
    · exact stopped run
    · exact Bool.false_ne_true (closed.symm.trans opened)
    · exact Bool.false_ne_true (notFull.symm.trans full)
    · exact absurd below (Nat.not_lt.2 atEnd)
  case beat => exact fun h => next_idle (by simp [beatNow, h])
  case evaluation =>
    refine fun h => next_idle ?_
    unfold selectorEvaluation
    rw [if_neg]
    rw [evaluationDue_iff]
    tauto
  case lapse =>
    refine fun h => next_idle ?_
    unfold pinLapse
    rw [if_neg]
    rw [lapseDue_iff]
    unfold LapseReached
    tauto
  case periodEnd => exact fun h => next_idle (by simp [periodEnd, h])
  case expiry =>
    exact fun j tag h => (exec_priorityExpiry j s tag).trans (next_idle (expireEntry_idle h))
  case retention => exact fun h => next_idle (by simp [completeRetention, h])
  case computation => exact fun h => next_idle (by simp [computationDone, h])
  case flight =>
    exact fun h => ⟨next_idle (by simp [frameComplete, h]), next_idle (by simp [arbitrationLoss, h])⟩
  case centre => exact fun h => next_idle (by simp [centreComplete, h])
  case reset => exact fun h pins => next_idle (by simp [resetUnitNow, resetMayTakeEffect, h])
  case busy => exact fun h => next_idle (by simp [lineBusy, h])
  case fault => exact fun h => next_idle (by simp [lineFault, h])
  case free => exact fun h cut => next_idle (by simp [lineFree, h])
  case tick =>
    refine fun h => next_idle ?_
    unfold tick
    rw [if_pos ((somethingDue_iff s).2 h)]
  case request => exact fun k other => exec_otherKind other

/-! ### The beat (R70) -/

/-- A beat queued on an open line starts at once, formed from the state in which it fell due (R71, R155). -/
theorem queueBeat_started {s : State} (free : s.line.state = .free) (idle : s.line.inFlight = none) :
    Started s (queueBeat s) (.beat ((s.timebase.beatSeq + 1) % 256)) := by
  unfold queueBeat
  dsimp only
  generalize placed : State.setLine _ _ = v
  have waits : v.line.beat = some { seq := (s.timebase.beatSeq + 1) % 256, losses := 0 } := by
    simp [← placed]
  rw [startLine_beat (by simpa [← placed] using idle) (by simpa [← placed] using free) waits]
  subst placed
  rfl

/-- Settles O34, from what a queued beat does to the port. -/
theorem beatQueued : Obligations.BeatQueued := by
  intro s running due seq
  have done : exec .beatDue s = .next (queueBeat (s.setDue { s.due with beat := false })) := by
    refine congrArg Host.Outcome.next ((whenRunning_running beatNow running).trans ?_)
    simp [beatNow, due]
  generalize taken : s.setDue _ = v at done
  obtain ⟨state, rx, errors, drops, missed, steers, replies, -⟩ := queueBeat_line v
  subst taken
  refine ⟨_, done, ?_, queueBeat_beats _, missed, ⟨state, errors, drops, queueBeat_credits _⟩, rx, steers,
    replies, fun free idle => queueBeat_started free idle⟩
  apply State.ext <;> simp [seq]

/-! ### The decisecond (R58, R62, R70, R101, R110, R123, R140) -/

theorem exec_decisecondTick {s : State} (running : s.inReset = false) (quiet : ¬ EventStands s) :
    exec .decisecondTick s =
      .next (if s.timebase.mode = .run then tickRun (tickClocks s) else tickClocks s) := by
  refine congrArg Host.Outcome.next ((whenRunning_running tick running).trans ?_)
  unfold tick
  rw [if_neg ((somethingDue_iff s).not.2 quiet)]

/-- While no event of the present ds stands, nothing of the last tick is due. -/
theorem due_of_quiet {s : State} (quiet : ¬ EventStands s) :
    s.due.boundary = false ∧ s.due.beat = false ∧ ∀ j : Junction, s.due.localZero[j] = false := by
  unfold EventStands at quiet
  refine ⟨?_, ?_, fun j => ?_⟩ <;> refine Bool.eq_false_iff.2 fun due => quiet ?_
  · exact .inl due
  · exact .inr (.inl due)
  · exact .inr (.inr (.inr (.inl ⟨j, due⟩)))

/-- What every ds moves (R110, R123, R140). -/
theorem tickClocks_eq (s : State) :
    let ends := 10 * s.store.geometry.head.reportPeriod ≤ s.roster.clock + 1
    tickClocks s = { s with
      priority := { s.priority with clock := (s.priority.clock + 1) % 4294967296 }
      roster := { s.roster with clock := if ends then 0 else s.roster.clock + 1 }
      selector := { s.selector with silence := min 72000 (s.selector.silence + 1) }
      due := { s.due with periodEnd := decide ends } } := by
  apply State.ext <;> simp [tickClocks, timeAfter, Config.clockModulus, Config.silenceMax]

/-- A beat is due as its divider comes to 0 (R70). -/
theorem tickDivider_eq_zero (d : Nat) : tickDivider d = 0 ↔ d = 1 := by
  unfold tickDivider
  split <;> omega

/-- What a ds of RUN moves besides: the Timebase and the evaluation timer (R58, R70, R101). -/
theorem tickRun_timebase (s : State) :
    (tickRun s).timebase = { s.timebase with
      cc := if s.timebase.c ≤ s.timebase.cc + 1 then 0 else s.timebase.cc + 1
      divider := s.timebase.divider.map tickDivider } ∧
    (tickRun s).selector = { s.selector with evalTimer := s.selector.evalTimer.map (fun v => v - 1) } ∧
    ((tickRun s).due.boundary = true ↔ s.timebase.c ≤ s.timebase.cc + 1) ∧
    ((tickRun s).due.beat = true ↔ s.timebase.divider.map tickDivider = some 0) ∧
    (tickRun s).due.periodEnd = s.due.periodEnd := by
  simp [tickRun]

/-- The local cycles of junctions 0..N-1 advance in RUN, and the others stand (R60, R62). -/
theorem tickRun_cycle (s : State) (j : Junction) :
    (tickRun s).cycles[j] = (if j.val < junctionCount s then tickCycle s.cycles[j] else s.cycles[j]) ∧
    ((tickRun s).due.localZero[j] = true ↔
      j.val < junctionCount s ∧ s.cycles[j].lcur ≤ s.cycles[j].lc + 1) := by
  simp [tickRun, wraps]

/-- A ds of RUN leaves the other blocks. -/
theorem tickRun_eq (s : State) :
    tickRun s = { s with timebase := (tickRun s).timebase, cycles := (tickRun s).cycles,
                         selector := (tickRun s).selector, due := (tickRun s).due } := by
  apply State.ext <;> simp [tickRun]

/-- Settles O35: the clocks of every mode, then those of RUN. -/
theorem decisecondAdvances : Obligations.DecisecondAdvances := by
  intro s running quiet periodEnds
  have done := exec_decisecondTick running quiet
  have clocks := tickClocks_eq s
  obtain ⟨noBoundary, noBeat, noZero⟩ := due_of_quiet quiet
  by_cases run : s.timebase.mode = .run
  · rw [if_pos run] at done
    generalize hv : tickClocks s = v at done clocks
    obtain ⟨timebase, selector, boundary, beat, period⟩ := tickRun_timebase v
    have cycle := tickRun_cycle v
    have frame := tickRun_eq v
    generalize tickRun v = u at *
    subst clocks
    refine ⟨u, done, ?_, by rw [period]; exact decide_eq_true_iff, fun held => absurd run held, fun _ => ⟨?_, ?_,
      ?_, ?_, boundary, fun j below => ?_, fun j beyond => ?_⟩⟩
    · rw [frame, selector]
    · rw [timebase]
    · intro stopped
      simpa [stopped, timebase] using beat
    · intro d counts
      refine ⟨?_, beat.trans ?_⟩
      · simp [timebase, counts, tickDivider]
      · simp [counts, tickDivider_eq_zero]
    · rw [selector]
    · obtain ⟨lc, zero⟩ := cycle j
      exact ⟨lc.trans (if_pos below), zero.trans (and_iff_right below)⟩
    · obtain ⟨lc, zero⟩ := cycle j
      exact ⟨lc.trans (if_neg (Nat.not_lt.2 beyond)),
        Bool.eq_false_iff.2 fun due => absurd (zero.1 due).1 (Nat.not_lt.2 beyond)⟩
  · rw [if_neg run, clocks] at done
    refine ⟨_, done, rfl, decide_eq_true_iff, fun _ => ⟨rfl, rfl, rfl, noBoundary, noBeat, noZero⟩,
      fun runs => absurd runs run⟩

/-! ### The close of a window (R68) -/

/-- An evaluation of a junction that no entry names changes nothing (R127). -/
theorem evaluate_of_none {j : Junction} {s : State}
    (noEntry : ∀ x ∈ s.priority.list, x.junction ≠ j) : evaluate j s = s := by
  have empty : (s.priority.list.filter fun e => decide (e.junction = j)) = [] := by
    simpa [List.filter_eq_nil_iff] using noEntry
  unfold evaluate
  rw [empty]
  split <;> rfl

/-- Settles O33, by the occasion of a close. -/
theorem windowCloses : Obligations.WindowCloses := by
  intro s j running rest
  have event := exec_windowClose j s
  rw [whenRunning_running _ running] at event
  refine ⟨?_, fun noClose => event.trans ?_⟩
  · intro run opened notFull atEnd closed
    refine ⟨event.trans ?_, fun noEntry => evaluate_of_none noEntry⟩
    have stands : closeDue s.cycles[j] = true := (closeDue_iff _).2 ⟨opened, notFull, atEnd⟩
    unfold windowClose
    rw [if_pos ⟨run, stands⟩, settle_rest (by simpa [AtRest] using rest)]
    rfl
  · rw [windowClose_idle]
    rintro ⟨-, opened, notFull, atEnd⟩
    rcases noClose with full | closed | below
    · exact Bool.false_ne_true (notFull.symm.trans full)
    · exact Bool.false_ne_true (closed.symm.trans opened)
    · exact absurd below (Nat.not_lt.2 atEnd)

/-! ### The local zero (R63 to R66) -/

theorem placeSteer_new {st : Steer} {l : List WaitingSteer}
    (unplaced : ∀ w ∈ l, w.steer.junction ≠ st.junction) :
    placeSteer st l = l ++ [{ steer := st, losses := 0 }] := by
  induction l with
  | nil => rfl
  | cons w rest ih =>
    obtain ⟨other, others⟩ := List.forall_mem_cons.1 unplaced
    simp [placeSteer, other, ih others]

theorem placeSteer_replaces {st : Steer} {a b : List WaitingSteer} {w : WaitingSteer}
    (unplaced : ∀ x ∈ a, x.steer.junction ≠ st.junction) (same : w.steer.junction = st.junction) :
    placeSteer st (a ++ w :: b) = a ++ { steer := st, losses := 0 } :: b := by
  induction a with
  | nil => simp [placeSteer, same]
  | cons x rest ih =>
    obtain ⟨other, others⟩ := List.forall_mem_cons.1 unplaced
    simp [placeSteer, other, ih others]

section
variable (j : Junction) (a : PriorityAction) (n : Nat) (s : State)

theorem steerOf_queueSteer : steerOf (queueSteer j a n s) j a n = steerOf s j a n := by
  simp [steerOf]

/-- The steers of the line after one has been queued: it stands where the one for its junction stood (R154). -/
theorem queueSteer_steers :
    lineSteers (queueSteer j a n s).line =
      flightSteers s.line ++ (placeSteer (steerOf s j a n) s.line.steers).map WaitingSteer.steer := by
  rw [queueSteer, (startLine_holds _).2.1]
  rfl

theorem queueSteer_onlySteers : OnlySteersQueued s (queueSteer j a n s) := by
  obtain ⟨state, rx, errors, drops, missed, beats, replies, -⟩ := queueSteer_line j a n s
  exact ⟨⟨state, errors, drops, queueSteer_credits j a n s⟩, rx, missed, beats, replies⟩

theorem lineFrame_queueSteer (item : LineItem) :
    lineFrame (queueSteer j a n s) item = lineFrame s item := by
  have frame : queueSteer j a n s = s.setLine (queueSteer j a n s).line := by apply State.ext <;> simp
  rw [frame, lineFrame_setLine]

variable {s}

/-- A steer queued on an open line on which nothing waits starts at once (R155). -/
theorem queueSteer_started (free : s.line.state = .free) (idle : s.line.inFlight = none)
    (noBeat : s.line.beat = none) (noSteer : s.line.steers = []) (noReply : s.line.replies = []) :
    Started (queueSteer j a n s) (queueSteer j a n s) (.steer (steerOf s j a n)) := by
  unfold Started
  rw [lineFrame_queueSteer]
  unfold queueSteer
  generalize placed : s.setLine _ = v
  have waits : v.line.steers = [{ steer := steerOf s j a n, losses := 0 }] := by
    simp [← placed, noSteer, placeSteer]
  obtain ⟨l, starts⟩ := startLine_only_steer (by simpa [← placed] using idle)
    (by simpa [← placed] using free) (by simpa [← placed] using noBeat) waits
    (by simpa [← placed] using noReply)
  rw [starts, ← placed, launch_setLine]
  exact launch_started s l _

end

/-- The record that a local zero leaves, under the target of the active set (R63 to R65). -/
theorem zeroedCycle_eq {s : State} {j : Junction} {set : TargetSet} {e : TargetEntry}
    (active : s.engine.active = some set) (entry : set.entries[j.val]? = some e) :
    let r := s.store.plan s.timebase.active
    let w := fixWindow r (gatedNow s j) j.val
    let k := seekChoice r.head w (seekError r.head.c e.target s.timebase.cc)
    zeroedCycle s j =
      { plan := s.timebase.active, lc := s.cycles[j].lc, lcur := k.lcur,
        windowEnd := if w.full then k.lcur else w.gEff,
        windowOpen := decide (0 < w.gEff ∨ w.full = true), gEff := w.gEff, full := w.full,
        gate := gatedNow s j, offsetNow := s.timebase.cc, targetUsed := e.target,
        seek := k.seek, delta := k.delta, lockout := s.cycles[j].lockout - 1,
        actionTaken := false, extension := s.cycles[j].extension } := by
  have target : activeTarget s j = e.target := by simp [activeTarget, active, entry]
  simp only [zeroedCycle, target, Bool.decide_or, Bool.decide_eq_true]

/-- The state in which a local zero places its steer: the event taken and the record fixed (R63 to R65). -/
def zeroTaken (j : Junction) (s : State) : State :=
  let taken := s.setDue { s.due with localZero := s.due.localZero.set j.val false j.isLt }
  setCycle taken j (zeroedCycle taken j)

theorem exec_localZero_due {s : State} {j : Junction} (running : s.inReset = false) (rest : AtRest s)
    (due : s.due.localZero[j] = true) :
    exec (.localZero j.val) s = .next (evaluate j (plainSteer j (zeroTaken j s))) := by
  rw [exec_localZero, whenRunning_running _ running]
  unfold localZero
  rw [if_pos due]
  exact congrArg Host.Outcome.next (settle_rest (by simpa [AtRest] using rest))

/-- Settles O32: the places of a steer, then the record and the steer of the local zero. -/
theorem localZeroFixesCycle : Obligations.LocalZeroFixesCycle := by
  refine ⟨fun st l => ⟨placeSteer_new, ?_⟩, ?_⟩
  · rintro a w b rfl unplaced same
    exact placeSteer_replaces unplaced same
  intro s j set e running rest due active entry r w k new
  have fixed : zeroTaken j s = { s with
      due := { s.due with localZero := s.due.localZero.set j.val false j.isLt }
      cycles := withCycle s j new } := by
    unfold zeroTaken
    dsimp only
    rw [zeroedCycle_eq (by exact active) entry]
    rfl
  have steer : steerOf (plainSteer j (zeroTaken j s)) j .none 0 = steerOf (zeroTaken j s) j .none 0 :=
    steerOf_queueSteer j .none 0 _
  have line : (zeroTaken j s).line = s.line := by simp [zeroTaken]
  refine ⟨plainSteer j (zeroTaken j s), exec_localZero_due running rest due, fun noEntry => ?_, ?_, ?_, ?_, ?_⟩
  · exact evaluate_of_none (by simpa [zeroTaken] using noEntry)
  · apply State.ext <;> simp [fixed]
  · have queued : OnlySteersQueued (zeroTaken j s) (plainSteer j (zeroTaken j s)) :=
      queueSteer_onlySteers j .none 0 _
    simpa only [OnlySteersQueued, LineKept, CreditsKept, line] using queued
  · rw [steer, ← line]
    exact queueSteer_steers j .none 0 _
  · rw [steer, ← line]
    exact queueSteer_started j .none 0

end Sys2Proof.Machine
end

section
/-! The Offset Seeker: the counts compared and the rows of its choice (R75 to R79). -/

namespace Sys2Proof.Machine

open Sys2Proof

/-! ### The counts and the rows of the choice (R78, R79) -/

/-- A count that is not infinite is below an infinite one and below every greater one (R78). -/
theorem fewer_cyclesNeeded (d r d' r' : Nat) :
    fewer (cyclesNeeded d r) (cyclesNeeded d' r') = true ↔
      r ≠ 0 ∧ (r' = 0 ∨ (d + r - 1) / r < (d' + r' - 1) / r') := by
  by_cases infinite : r = 0
  · simp [cyclesNeeded, infinite, fewer]
  by_cases infinite' : r' = 0 <;> simp [cyclesNeeded, infinite, infinite', fewer]

theorem seekChoice_inStep (h : PlanHead) (w : FixedWindow) :
    seekChoice h w 0 = { seek := .inStep, delta := 0, lcur := h.c } := rfl

section
variable {h : PlanHead} {w : FixedWindow} {e : Nat}

/-- Off its target, a junction is shortened when that way round takes fewer cycles (R79). -/
theorem seekChoice_shorten (off : e ≠ 0)
    (quicker : fewer (cyclesNeeded (h.c - e) (maxShort h w)) (cyclesNeeded e (maxLen h)) = true) :
    seekChoice h w e =
      { seek := .shorten, delta := -(min (h.c - e) (maxShort h w) : Nat),
        lcur := h.c - min (h.c - e) (maxShort h w) } := by
  have finite : maxShort h w ≠ 0 := ((fewer_cyclesNeeded _ _ _ _).1 quicker).1
  simp [seekChoice, off, cyclesNeeded_eq_none, finite, quicker]

/-- Off its target, a junction is otherwise lengthened; the row in which neither way can move (R81) is the
one with a greatest lengthening of 0. -/
theorem seekChoice_lengthen (off : e ≠ 0)
    (slower : ¬ fewer (cyclesNeeded (h.c - e) (maxShort h w)) (cyclesNeeded e (maxLen h)) = true) :
    seekChoice h w e =
      { seek := .lengthen, delta := (min e (maxLen h) : Nat), lcur := h.c + min e (maxLen h) } := by
  unfold seekChoice
  dsimp only
  rw [if_neg off, if_neg slower]
  split
  · next stuck =>
    have still : maxLen h = 0 := (cyclesNeeded_eq_none _ _).1 stuck.1
    simp [still]
  · rfl

end

/-- Settles O26, by the rows of the table: each fixes which count is the smaller. -/
theorem seekerChoosesTheCorrection : Obligations.SeekerChoosesTheCorrection := by
  refine ⟨fun _ target offsetNow => seekError_cast target offsetNow, fun _ => rfl,
    fun h w => ⟨fun full => ?_, fun full window => ?_, fun full window => ?_⟩, ?_⟩
  · simp [maxShort, full]
  · simp [maxShort, full, window]
  · simp [maxShort, full, window]
  intro h w e _ l m k lengthens shortens
  have shorter (off : e ≠ 0) (movable : m ≠ 0)
      (quicker : l = 0 ∨ (h.c - e + m - 1) / m < (e + l - 1) / l) : k = shortens :=
    seekChoice_shorten off ((fewer_cyclesNeeded _ _ _ _).2 ⟨movable, quicker⟩)
  have longer (off : e ≠ 0)
      (slower : m = 0 ∨ (l ≠ 0 ∧ (e + l - 1) / l ≤ (h.c - e + m - 1) / m)) : k = lengthens := by
    refine (seekChoice_lengthen off fun quicker => ?_).trans (by simp [lengthens, l])
    obtain ⟨finite, less⟩ := (fewer_cyclesNeeded _ _ _ _).1 quicker
    rcases slower with shut | ⟨rate, atMost⟩
    · exact finite shut
    · exact less.elim rate (Nat.not_lt.2 atMost)
  refine ⟨?_, fun off still shut => ?_, fun off still rate => shorter off rate (.inl still),
    fun off _ shut => longer off (.inl shut), fun off _ rate less => shorter off rate (.inr less),
    fun off rate _ atMost => longer off (.inr ⟨rate, atMost⟩)⟩
  · rintro rfl
    exact seekChoice_inStep h w
  · rw [longer off (.inl shut)]
    simp [lengthens, still]

end Sys2Proof.Machine
end

section
/-! The pins (R106 to R110): PIN_PLAN, PIN_BIAS and the lapse of both. -/

namespace Sys2Proof.Machine

open Sys2Proof

/-! ### What the requests carry -/

theorem Admits.planPin {s : State} {t : Taken} {n : Nat} (h : Admits s t (.pinPlan n)) :
    Carries s t .pinPlan parseOne n :=
  h.carries rfl (fun _ => rfl) fun _ _ => Request.pinPlan.inj

theorem Admits.biasPin {s : State} {t : Taken} {v : Nat} (h : Admits s t (.pinBias v)) :
    Carries s t .pinBias parseOne v :=
  h.carries rfl (fun _ => rfl) fun _ _ => Request.pinBias.inj

/-! ### PIN_PLAN (R52, R106) -/

theorem answerPinPlan_code (t : Taken) (n : Nat) (s : State) :
    (answerPinPlan t n s).code =
      if 24 < n then .badArgument
      else if s.timebase.mode = .entering then .wrongMode
      else if isPlan n = true ∧ ready s n = false then .notReady else .ok := by
  simp [answerPinPlan, firstRefusal_cons]

/-- In RUN the pending plan is computed, and the active plan without one (R29). -/
theorem computingPlan_run {s : State} (running : s.timebase.mode = .run) :
    computingPlan s =
      some (if s.timebase.pendingPlan = 0 then s.timebase.active else s.timebase.pendingPlan) := by
  unfold computingPlan computingRole
  rw [running]
  dsimp only
  split <;> rfl

section
variable {n : Nat} {v : State}

/-- A pin that leaves the pending plan as it stands. -/
theorem applyPlanPin_stays (apart : v.timebase.mode = .run → v.timebase.pendingPlan ≠ v.timebase.active)
    (h : v.timebase.mode ≠ .run ∨ n = v.timebase.pendingPlan ∨
      (n = v.timebase.active ∧ v.timebase.pendingPlan = 0)) : applyPlanPin n v = v := by
  unfold applyPlanPin
  by_cases running : v.timebase.mode = .run
  · have apart := apart running
    rw [if_neg (not_not_intro running)]
    rcases h with still | rfl | ⟨rfl, none⟩
    · exact absurd running still
    · simp [apart]
    · simp [none]
  · rw [if_pos running]

/-- A pin of the active plan clears the pending plan. -/
theorem applyPlanPin_clears (running : v.timebase.mode = .run) (active : n = v.timebase.active)
    (pending : v.timebase.pendingPlan ≠ 0) : applyPlanPin n v = setPendingPlan 0 v := by
  simp [applyPlanPin, running, active, pending]

/-- A pin of a plan that is neither active nor pending makes it pending. -/
theorem applyPlanPin_pends (running : v.timebase.mode = .run) (other : n ≠ v.timebase.active)
    (fresh : n ≠ v.timebase.pendingPlan) : applyPlanPin n v = setPendingPlan n v := by
  simp [applyPlanPin, running, other, fresh]

/-- A pin touches the pending plan and the engine, and raises a cause. -/
theorem settle_applyPlanPin_frame (n : Nat) (v : State) :
    let u := settle (applyPlanPin n v)
    u = { v with
      timebase := { v.timebase with pendingPlan := u.timebase.pendingPlan }
      engine := u.engine, causeRaised := false } := by
  apply State.ext
  case timebase =>
    simp only [settle_frame, applyPlanPin]
    repeat' split
    all_goals simp [setPendingPlan_timebase]
  all_goals simp

/-- A pending plan that is set or cleared in RUN so that another plan is computed. -/
theorem settle_setPendingPlan_of_computed {s : State} {q : Nat} (running : v.timebase.mode = .run)
    (engine : v.engine = s.engine)
    (moved : (if q = 0 then v.timebase.active else q) ≠
      if v.timebase.pendingPlan = 0 then v.timebase.active else v.timebase.pendingPlan) :
    PendingChanged s (settle (setPendingPlan q v)) := by
  refine settle_setPendingPlan running engine ?_
  rw [computingPlan_run running, computingPlan_run (by exact running)]
  exact fun same => moved (Option.some.inj same)

end

/-- The state in which a PIN_PLAN has been answered and the plan pin stands. -/
def planPinSet (s : State) (t : Taken) (pin : Option Nat) : State :=
  { answered s t .ok [] with
    selector := { s.selector with planPin := pin, candidate := none, count := 0 } }

theorem effectPinPlan_eq (s : State) (t : Taken) (n : Nat) :
    effectPinPlan t n (answered s t .ok []) =
      if n = 0 then planPinSet s t none else applyPlanPin n (planPinSet s t (some n)) := by
  have cleared : ∀ pin, clearCandidate ((answered s t .ok []).setSelector
      { (answered s t .ok []).selector with planPin := pin }) = planPinSet s t pin := fun pin => by
    simp [clearCandidate, planPinSet, State.setSelector]
  simp only [effectPinPlan, cleared]

/-- Settles O37: the refusals by the answer's code, the rest by what the pin does to the pending plan. -/
theorem planPinned : Obligations.PlanPinned := by
  intro s t n rest h
  have carries := h.planPin
  have code := answerPinPlan_code t n (takeFrame t.port s)
  simp only [takeFrame_frame] at code
  refine ⟨fun beyond => ?_, fun small entering => ?_, fun zero outside => ?_, fun p named outside => ?_⟩
  · exact carries.refused (answer := answerPinPlan) rfl (by rw [code, if_pos beyond]) (by decide)
  · exact carries.refused (answer := answerPinPlan) rfl
      (by rw [code, if_neg (Nat.not_lt.2 small), if_pos entering]) (by decide)
  · subst zero
    have accepted := carries.accepted (answer := answerPinPlan) (effect := effectPinPlan) (result := [])
      (c := .pinPlan) rfl (by simp [code, outside, isPlan]) rfl
    rw [effectPinPlan_eq, if_pos rfl, settle_rest (by simpa [planPinSet, AtRest] using rest)] at accepted
    refine ⟨_, accepted, accepted_of_eq rfl rfl rfl, ?_⟩
    apply State.ext <;> simp [planPinSet]
  have plan : isPlan n = true := named ▸ isPlan_succ p
  obtain ⟨positive, small⟩ := (isPlan_iff n).1 plan
  have isReady : ready (takeFrame t.port s) n = true ↔ PlanReady s p := by
    rw [named, ready_iff]
    simp [PlanReady]
  rw [if_neg (Nat.not_lt.2 small), if_neg outside] at code
  refine ⟨fun unready => ?_, fun isReady' apart => ?_⟩
  · have shut : ready (takeFrame t.port s) n = false := by simpa using mt isReady.1 unready
    exact carries.refused (answer := answerPinPlan) rfl (by rw [code, if_pos ⟨plan, shut⟩]) (by decide)
  have accepted := carries.accepted (answer := answerPinPlan) (effect := effectPinPlan) (result := [])
    (c := .pinPlan) rfl (by simp [code, isReady.2 isReady']) rfl
  rw [effectPinPlan_eq, if_neg (by omega)] at accepted
  set v := planPinSet s t (some n) with hv
  have timebase : v.timebase = s.timebase := by simp [hv, planPinSet]
  have engine : v.engine = s.engine := by simp [hv, planPinSet]
  have frame := settle_applyPlanPin_frame n v
  have selector : v.selector = { s.selector with planPin := some n, candidate := none, count := 0 } := rfl
  refine ⟨_, accepted, accepted_of_eq ?_ ?_ ?_, ?_, fun stays => ?_, fun running active pending => ?_,
    fun running other fresh => ?_⟩
  · simp [hv, planPinSet]
  · simp [hv, planPinSet]
  · simp [hv, planPinSet]
  · apply State.ext
    case timebase => rw [frame, timebase]
    case causeRaised => rw [frame]; exact rest.symm
    all_goals simp [hv, planPinSet]
  · rw [applyPlanPin_stays (by simpa [timebase] using apart) ?_, settle_rest ?_, timebase, engine]
    · exact ⟨rfl, rfl⟩
    · simpa [hv, planPinSet, AtRest] using rest
    · rw [timebase]
      exact stays.imp_left fun held => by simp [held]
  · have apart := apart running
    rw [applyPlanPin_clears (by rwa [timebase]) (by rwa [timebase]) (by rwa [timebase])]
    refine ⟨by simp [setPendingPlan_timebase], ?_⟩
    refine settle_setPendingPlan_of_computed (by rwa [timebase]) engine ?_
    simpa [timebase, pending] using apart.symm
  · rw [applyPlanPin_pends (by rwa [timebase]) (by rwa [timebase]) (by rwa [timebase])]
    refine ⟨by simp [setPendingPlan_timebase], ?_⟩
    refine settle_setPendingPlan_of_computed (by rwa [timebase]) engine ?_
    rw [timebase, if_neg (by omega)]
    split
    · exact other
    · exact fresh

/-! ### The bias pin (R105, R108, R109) -/

theorem answerPinBias_code (t : Taken) (v : Nat) (s : State) :
    (answerPinBias t v s).code = if 100 < v ∧ v ≠ 255 then .badArgument else .ok := by
  simp [answerPinBias, firstRefusal_cons]

/-- The bias pin set or released, the live bias after it, and a cause if `raises` (R108, R109). -/
def biasPinSet (pin : Option Nat) (raises : Bool) (s : State) : State :=
  raiseCauseIf raises (applyBiasPin (s.setSelector { s.selector with biasPin := pin }))

theorem releaseBiasPin_eq (s : State) : releaseBiasPin s = biasPinSet none (pendingStands s) s := rfl

theorem pendingStands_iff (s : State) :
    pendingStands s = true ↔ s.timebase.mode = .run ∧ s.timebase.pendingPlan ≠ 0 := by
  simp [pendingStands]

theorem effectPinBias_eq (t : Taken) (v : Nat) (s : State) :
    effectPinBias t v s = biasPinSet (if v = 255 then none else some v)
      (pendingStands s && decide (v = 255 ∨ s.selector.biasPin ≠ some v)) s := by
  unfold effectPinBias
  by_cases release : v = 255
  · simp [release, releaseBiasPin_eq]
  · simp only [release, if_false, false_or]
    rfl

theorem raiseCauseIf_causeRaised (b : Bool) (s : State) :
    (raiseCauseIf b s).causeRaised = true ↔ s.causeRaised = true ∨ b = true := by
  cases b <;> simp [raiseCauseIf, raiseCause]

/-- In HOLD the bias pin alone is written. -/
theorem biasPinSet_held (pin : Option Nat) (raises : Bool) {s : State} (held : s.timebase.mode = .hold) :
    (biasPinSet pin raises s).selector = { s.selector with biasPin := pin } ∧
    ((biasPinSet pin raises s).causeRaised = true ↔ s.causeRaised = true ∨ raises = true) := by
  have still : applyBiasPin (s.setSelector { s.selector with biasPin := pin }) =
      s.setSelector { s.selector with biasPin := pin } := by
    simp [applyBiasPin, held]
  refine ⟨by simp [biasPinSet, still], ?_⟩
  rw [biasPinSet, still, raiseCauseIf_causeRaised]
  rfl

/-- Outside HOLD the live bias takes the value that the pin gives it, and a change of it is a cause. -/
theorem biasPinSet_running (pin : Option Nat) (raises : Bool) {s : State} {b : Nat}
    (outside : s.timebase.mode ≠ .hold)
    (bias : installedBias (s.setSelector { s.selector with biasPin := pin }) (biasPlan s) = b) :
    (biasPinSet pin raises s).selector = { s.selector with biasPin := pin, liveBias := b } ∧
    ((biasPinSet pin raises s).causeRaised = true ↔
      (s.causeRaised = true ∨ s.selector.liveBias ≠ b) ∨ raises = true) := by
  have moves : applyBiasPin (s.setSelector { s.selector with biasPin := pin }) =
      setLiveBias b (s.setSelector { s.selector with biasPin := pin }) := by
    rw [← bias]
    exact if_neg outside
  refine ⟨by simp [biasPinSet, moves, setLiveBias_selector], ?_⟩
  rw [biasPinSet, moves, raiseCauseIf_causeRaised, setLiveBias_causeRaised]
  rfl

/-- Of the selector the bias pin and the live bias are written. -/
theorem biasPinSet_selector (pin : Option Nat) (raises : Bool) (s : State) :
    (biasPinSet pin raises s).selector = { s.selector with
      biasPin := pin, liveBias := (biasPinSet pin raises s).selector.liveBias } := by
  by_cases held : s.timebase.mode = .hold
  · rw [(biasPinSet_held pin raises held).1]
  · rw [(biasPinSet_running pin raises held rfl).1]

/-- The bias pin touches the selector and raises a cause. -/
theorem biasPinSet_frame (pin : Option Nat) (raises : Bool) (s : State) :
    biasPinSet pin raises s = { s with
      selector := (biasPinSet pin raises s).selector
      causeRaised := (biasPinSet pin raises s).causeRaised } := by
  apply State.ext <;> simp [biasPinSet]

/-- The plan whose range bounds the live bias is the entry plan in ENTERING and the active one in RUN. -/
theorem biasPlan_eq {s : State} {q : Nat} (h : (s.timebase.mode = .entering ∧ s.timebase.entry = q) ∨
    (s.timebase.mode = .run ∧ s.timebase.active = q)) :
    s.timebase.mode ≠ .hold ∧ biasPlan s = q := by
  rcases h with ⟨mode, rfl⟩ | ⟨mode, rfl⟩ <;> simp [biasPlan, mode]

/-- Settles O38: the pin as one write with its cause, in HOLD and outside it. -/
theorem biasPinned : Obligations.BiasPinned := by
  intro s t v rest h
  have carries := h.biasPin
  have code := answerPinBias_code t v (takeFrame t.port s)
  refine ⟨fun large other => ?_, fun admitted => ?_⟩
  · exact carries.refused (answer := answerPinBias) rfl (by rw [code, if_pos ⟨large, other⟩]) (by decide)
  have accepted := carries.accepted (answer := answerPinBias) (effect := effectPinBias) (result := [])
    (c := .pinBias) rfl (by rw [code, if_neg (by omega)]) rfl
  rw [effectPinBias_eq] at accepted
  set v0 := answered s t .ok [] with hv0
  set pin : Option Nat := if v = 255 then none else some v with hpin
  set raises := pendingStands v0 && decide (v = 255 ∨ v0.selector.biasPin ≠ some v) with hraises
  have timebase : v0.timebase = s.timebase := by simp [hv0]
  have selector : v0.selector = s.selector := by simp [hv0]
  have quiet : v0.causeRaised = false := by simpa [hv0, AtRest] using rest
  have raises_iff : raises = true ↔ s.timebase.mode = .run ∧ s.timebase.pendingPlan ≠ 0 ∧
      (v = 255 ∨ s.selector.biasPin ≠ some v) := by
    rw [hraises, Bool.and_eq_true, pendingStands_iff, decide_eq_true_iff, timebase, selector, and_assoc]
  have frame := biasPinSet_frame pin raises v0
  have selector_eq := biasPinSet_selector pin raises v0
  rw [selector] at selector_eq
  have engine : (biasPinSet pin raises v0).engine = s.engine := by rw [frame]; simp [hv0]
  refine ⟨_, accepted, accepted_of_eq ?_ ?_ ?_, ?_, fun held => ?_, fun p named => ?_⟩
  · rw [frame]; simp [hv0]
  · rw [frame]; simp [hv0]
  · rw [frame]; simp [hv0]
  · apply State.ext
    case selector => simpa using selector_eq
    case causeRaised => simpa [AtRest] using rest.symm
    all_goals simp only [settle_frame]
    all_goals rw [frame]; simp [hv0]
  · obtain ⟨sel, cause⟩ := biasPinSet_held pin raises (s := v0) (by rwa [timebase])
    have noCause : (biasPinSet pin raises v0).causeRaised = false := by
      simp [← Bool.not_eq_true, cause, quiet, raises_iff, held]
    rw [settle_rest noCause, sel, selector]
    exact ⟨rfl, engine⟩
  · obtain ⟨outside, plan⟩ := biasPlan_eq (s := v0) (by rwa [timebase])
    obtain ⟨nominal, clamped⟩ := installedBias_spec (v0.setSelector { v0.selector with biasPin := pin }) p
    obtain ⟨sel, cause⟩ := biasPinSet_running pin raises outside (by rw [plan])
    have newBias : (settle (biasPinSet pin raises v0)).selector.liveBias =
        installedBias (v0.setSelector { v0.selector with biasPin := pin }) (p.val + 1) := by
      simp [sel]
    refine ⟨fun release => ?_, fun value => ?_, settle_causeIf (cause.trans ?_) engine⟩
    · rw [newBias, nominal (by simp [hpin, release])]
      simp [hv0]
    · rw [newBias, clamped v (by simp [hpin]; omega)]
      simp [hv0]
    · rw [newBias, quiet, raises_iff, selector]
      simp [eq_comm]

/-! ### The lapse of the pins (R110) -/

/-- The lapse in the terms of a release: the plan pin and the candidate cleared beside it, then the notice. -/
theorem lapsePins_eq (s : State) :
    let cleared := s.setSelector { s.selector with planPin := none }
    lapsePins s = queueNotice (.pinLapsed s.selector.planPin s.selector.biasPin)
      (clearCandidate (biasPinSet none (pendingStands s) cleared)) := rfl

theorem exec_pinLapse {s : State} (running : s.inReset = false) (due : LapseReached s) :
    exec .pinLapse s = .next (settle (lapsePins s)) := by
  refine congrArg Host.Outcome.next ((whenRunning_running pinLapse running).trans ?_)
  exact if_pos ((lapseDue_iff s).2 due)

/-- Settles O41: the lapse is the release of the bias pin with the plan pin and the candidate cleared. -/
theorem pinsLapse : Obligations.PinsLapse := by
  intro s running rest
  refine ⟨fun nothing => ?_, fun timed reached pinned => ?_⟩
  · have idle : ¬ LapseReached s := by
      rintro ⟨pinned, timed, reached⟩
      rcases nothing with zero | ⟨plan, bias⟩ | apart
      · exact timed zero
      · exact pinned.elim (· plan) (· bias)
      · exact apart reached
    exact next_idle (act := pinLapse) (if_neg (mt (lapseDue_iff s).1 idle))
  have done := exec_pinLapse running
    ⟨by simpa [Option.isSome_iff_ne_none] using pinned, timed, reached⟩
  rw [lapsePins_eq] at done
  set cleared := s.setSelector { s.selector with planPin := none } with hcleared
  set w := biasPinSet none (pendingStands s) cleared with hw
  have frame : w = _ := biasPinSet_frame none (pendingStands s) cleared
  have selector_eq : w.selector =
      { s.selector with planPin := none, biasPin := none, liveBias := w.selector.liveBias } :=
    biasPinSet_selector none (pendingStands s) cleared
  have engine : w.engine = s.engine := by rw [frame]; simp [hcleared]
  set notice : NoticeBody := .pinLapsed s.selector.planPin s.selector.biasPin
  have told : Spoke s (settle (queueNotice notice (clearCandidate w))) [] [notice] := by
    refine ((queueNotice_spoke notice (clearCandidate w)).after_eq (s := s) ?_ ?_ ?_).then_eq ?_ ?_ ?_
    · rw [frame]; simp [hcleared]
    · rw [frame]; simp [hcleared]
    · rw [frame]; simp [hcleared]
    all_goals simp
  have newBias : (settle (queueNotice notice (clearCandidate w))).selector.liveBias =
      w.selector.liveBias := by simp [clearCandidate]
  refine ⟨_, done, ?_, fun held => ?_, fun p named => ?_, told.nothingServed, told.centreErrors, told.notices⟩
  · apply State.ext
    case selector =>
      simp only [settle_frame, queueNotice_frame, clearCandidate, setSelector_selector]
      rw [selector_eq]
    case causeRaised => simpa [AtRest] using rest.symm
    case engine => rfl
    case centre => rfl
    all_goals rw [frame]; simp [hcleared]
  · obtain ⟨sel, cause⟩ := biasPinSet_held none (pendingStands s) (s := cleared) held
    have noCause : (queueNotice notice (clearCandidate w)).causeRaised = false := by
      simp only [queueNotice_frame, clearCandidate_frame]
      rw [← Bool.not_eq_true, hw, cause, pendingStands_iff, show cleared.causeRaised = false from rest]
      simp [held]
    rw [newBias, settle_rest noCause, hw, sel]
    exact ⟨rfl, by simpa using engine⟩
  · obtain ⟨outside, plan⟩ := biasPlan_eq (s := cleared) named
    obtain ⟨nominal, -⟩ := installedBias_spec (cleared.setSelector { cleared.selector with biasPin := none }) p
    obtain ⟨sel, cause⟩ := biasPinSet_running none (pendingStands s) outside
      ((congrArg _ plan).trans (nominal rfl))
    rw [← hw] at sel cause
    have bias : w.selector.liveBias = s.store.plans[p].head.biasNominal := by rw [sel]; rfl
    refine ⟨newBias.trans bias, settle_causeIf ?_ (by simpa using engine)⟩
    simp only [queueNotice_frame, clearCandidate_frame]
    rw [cause, newBias, bias, pendingStands_iff, show cleared.causeRaised = false from rest]
    simp [hcleared, eq_comm]

end Sys2Proof.Machine
end

section
/-! The demand indices and the evaluation of the Plan Selector (R98 to R104). -/

namespace Sys2Proof.Machine

open Sys2Proof

/-! ### The demand indices, the bias target and the dominance (R98, R99) -/

theorem mem_countedJunctions (s : State) (j : Junction) :
    j ∈ countedJunctions s ↔ j.val < junctionCount s ∧
      (s.roster.junctions[j].state = .linked ∨ s.roster.junctions[j].state = .degraded) := by
  simp [countedJunctions, mem_liveJunctions]

theorem liveJunctions_sorted (s : State) : (liveJunctions s).Pairwise (· < ·) :=
  allJunctions_sorted.filter _

theorem liveJunctions_nodup (s : State) : (liveJunctions s).Nodup :=
  (liveJunctions_sorted s).imp ne_of_lt

/-- The inbound part of a demand is at most the whole of it (R99). -/
theorem inboundShare_le {dIn dOut : Nat} (demand : 0 < dIn + dOut) : inboundShare dIn dOut ≤ 100 := by
  refine Nat.le_of_lt_succ ((Nat.div_lt_iff_lt_mul demand).2 ?_)
  have := Nat.div_le_self (dIn + dOut) 2
  omega

theorem dominanceNow_none {s : State} (none : demandIn s + demandOut s = 0) :
    dominanceNow s = .balanced := if_pos none

/-- The dominance with demand: inbound from 55 per cent, outbound up to 45, and balanced between (R99). -/
theorem dominanceNow_rows {s : State} (demand : 0 < demandIn s + demandOut s) :
    let share := inboundShare (demandIn s) (demandOut s)
    (dominanceNow s = .inbound ↔ 55 ≤ share) ∧ (dominanceNow s = .outbound ↔ share ≤ 45) ∧
    (dominanceNow s = .balanced ↔ 45 < share ∧ share < 55) := by
  intro share
  have rows : dominanceNow s =
      if 55 ≤ share then .inbound else if share ≤ 45 then .outbound else .balanced :=
    if_neg (Nat.ne_of_gt demand)
  rw [rows]
  by_cases high : 55 ≤ share
  · simp [high]; omega
  · by_cases low : share ≤ 45
    · simp [high, low]
    · simp [high, low]; omega

/-- Settles O40: the indices by their definitions, the dominance by its rows. -/
theorem demandIndicesAndTarget : Obligations.DemandIndicesAndTarget := by
  intro s
  refine ⟨mem_countedJunctions s, (liveJunctions_nodup s).filter _, rfl, rfl, fun empty => ?_, rfl, ?_,
    fun p active => ?_⟩
  · simp [demandIn, demandOut, empty]
  · exact ⟨dominanceNow_none, fun demand => ⟨inboundShare_le demand, dominanceNow_rows demand⟩⟩
  · have target : biasTarget s = clampBias s.store.plans[p].head
        (if demandIn s + demandOut s = 0 then s.store.plans[p].head.biasNominal
          else inboundShare (demandIn s) (demandOut s)) := by
      simp [biasTarget, active]
    refine ⟨fun none => ?_, fun demand => ?_⟩
    · rw [target, if_pos none]; rfl
    · rw [target, if_neg (Nat.ne_of_gt demand)]; rfl

/-! ### The match of an evaluation (R103) -/

theorem matchesEntry_iff (s : State) (e : SelectionEntry) :
    matchesEntry s e = true ↔ EntryMatches s e := by
  have isReady : ready s e.plan = true ↔ ∃ p : Fin 24, e.plan = p.val + 1 ∧ PlanReady s p := by
    constructor
    · intro h
      obtain ⟨p, named⟩ := exists_plan (ready_isPlan h)
      exact ⟨p, named, (ready_iff s p).1 (named ▸ h)⟩
    · rintro ⟨p, named, h⟩
      rw [named]
      exact (ready_iff s p).2 h
  simp only [matchesEntry, EntryMatches, Bool.and_eq_true, Bool.or_eq_true, decide_eq_true_eq, isReady,
    and_assoc]

theorem selectionMatch_iff (s : State) (e : SelectionEntry) :
    selectionMatch s = some e ↔ FirstMatch s e := by
  rw [selectionMatch, List.find?_eq_some_iff_getElem]
  simp only [FirstMatch, Vector.getElem_toList, Vector.length_toList, matchesEntry_iff,
    Bool.not_eq_true', ← Bool.not_eq_true]
  constructor
  · rintro ⟨hit, i, bound, rfl, before⟩
    exact ⟨⟨i, bound⟩, rfl, hit, fun k lt => before k.val lt⟩
  · rintro ⟨i, rfl, hit, before⟩
    exact ⟨hit, i.val, i.isLt, rfl, fun k lt => before ⟨k, lt.trans i.isLt⟩ lt⟩

/-- The match is read off the store, the demand and the roster. -/
theorem selectionMatch_congr {s u : State} (store : u.store = s.store) (demand : u.demand = s.demand)
    (roster : u.roster = s.roster) : selectionMatch u = selectionMatch s := by
  have counted : countedJunctions u = countedJunctions s := by
    unfold countedJunctions liveJunctions junctionCount
    rw [store, roster]
  have inbound : demandIn u = demandIn s := by simp [demandIn, counted, demand]
  have outbound : demandOut u = demandOut s := by simp [demandOut, counted, demand]
  have entry : matchesEntry u = matchesEntry s := funext fun e => by
    unfold matchesEntry ready totalDemand dominanceNow
    rw [inbound, outbound, store]
  rw [selectionMatch, selectionMatch, entry, store]

/-! ### The bias step (R102) -/

/-- The live bias after a bias step. -/
def steppedBias (s : State) : Nat :=
  if s.selector.biasPin.isSome then s.selector.liveBias else slew s.selector.liveBias (biasTarget s)

theorem slew_spec (b target : Nat) :
    (b ≤ target → slew b target = min target (b + 10)) ∧
    (target ≤ b → slew b target = max target (b - 10)) := by
  unfold slew Config.slewStep
  split <;> omega

theorem biasStep_selector (s : State) :
    (biasStep s).selector = { s.selector with liveBias := steppedBias s } := by
  unfold biasStep steppedBias
  split
  · rfl
  · exact setLiveBias_selector _ s

theorem biasStep_causeRaised (s : State) :
    (biasStep s).causeRaised = true ↔ s.causeRaised = true ∨ steppedBias s ≠ s.selector.liveBias := by
  unfold biasStep steppedBias
  split
  · simp
  · rw [setLiveBias_causeRaised, ne_comm]

/-! ### The matching step (R103, R104) -/

section
variable {s : State} {e : SelectionEntry}

theorem matchingStep_pinned (pin : s.selector.planPin.isSome = true) : matchingStep s = s := if_pos pin

/-- Without a match, and with a match that is active or pending, the candidate is cleared. -/
theorem matchingStep_clears (free : s.selector.planPin = none)
    (h : ∀ e, selectionMatch s = some e →
      e.plan = s.timebase.active ∨ e.plan = s.timebase.pendingPlan) :
    matchingStep s = clearCandidate s := by
  unfold matchingStep
  rw [free]
  cases found : selectionMatch s with
  | none => rfl
  | some e => exact if_pos (h e found)

/-- A match that has not been met often enough is counted. -/
theorem matchingStep_counts (free : s.selector.planPin = none) (found : selectionMatch s = some e)
    (unknown : ¬(e.plan = s.timebase.active ∨ e.plan = s.timebase.pendingPlan))
    (few : countMatch s.selector e.plan < e.persistence) :
    matchingStep s = s.setSelector
      { s.selector with candidate := some e.plan, count := countMatch s.selector e.plan } := by
  simp only [matchingStep, free, found, if_neg unknown, if_neg (Nat.not_le.2 few)]
  rfl

/-- A match that has been met often enough becomes the pending plan. -/
theorem matchingStep_proposes (free : s.selector.planPin = none) (found : selectionMatch s = some e)
    (unknown : ¬(e.plan = s.timebase.active ∨ e.plan = s.timebase.pendingPlan))
    (often : e.persistence ≤ countMatch s.selector e.plan) :
    matchingStep s = setPendingPlan e.plan (clearCandidate s) := by
  simp only [matchingStep, free, found, if_neg unknown, if_pos often]
  rfl

/-- Everything that the matching step can do: it writes the candidate and its count, or it makes a plan
pending that is neither active nor pending. -/
theorem matchingStep_cases (s : State) :
    (∃ c n, matchingStep s = s.setSelector { s.selector with candidate := c, count := n }) ∨
    ∃ p, p ≠ s.timebase.pendingPlan ∧ matchingStep s = setPendingPlan p (clearCandidate s) := by
  cases pin : s.selector.planPin with
  | some p => exact .inl ⟨_, _, matchingStep_pinned (by simp [pin])⟩
  | none =>
    by_cases known : ∀ e, selectionMatch s = some e →
        e.plan = s.timebase.active ∨ e.plan = s.timebase.pendingPlan
    · exact .inl ⟨_, _, matchingStep_clears pin known⟩
    · push Not at known
      obtain ⟨e, found, inactive, fresh⟩ := known
      have unknown : ¬(e.plan = s.timebase.active ∨ e.plan = s.timebase.pendingPlan) := by
        simp [inactive, fresh]
      by_cases often : e.persistence ≤ countMatch s.selector e.plan
      · exact .inr ⟨e.plan, fresh, matchingStep_proposes pin found unknown often⟩
      · exact .inl ⟨_, _, matchingStep_counts pin found unknown (Nat.not_le.1 often)⟩

theorem settle_matchingStep_frame (s : State) :
    let u := settle (matchingStep s)
    u = { s with
      selector := { s.selector with candidate := u.selector.candidate, count := u.selector.count }
      timebase := { s.timebase with pendingPlan := u.timebase.pendingPlan }
      engine := u.engine, causeRaised := false } := by
  apply State.ext
  case timebase =>
    obtain ⟨c, n, eq⟩ | ⟨p, -, eq⟩ := matchingStep_cases s <;> simp [eq, setPendingPlan_timebase]
  case selector =>
    obtain ⟨c, n, eq⟩ | ⟨p, -, eq⟩ := matchingStep_cases s <;> simp [eq, clearCandidate]
  all_goals simp

end

/-! ### The evaluation (R101) -/

/-- The state in which an evaluation matches: the timer runs in full again, and the bias has moved. -/
def evaluationStepped (s : State) : State :=
  biasStep (s.setSelector { s.selector with evalTimer := some (fullInterval s) })

theorem exec_evaluation {s : State} (running : s.inReset = false) (run : s.timebase.mode = .run)
    (due : s.selector.evalTimer = some 0) :
    exec .evaluation s = .next (settle (matchingStep (evaluationStepped s))) := by
  refine congrArg Host.Outcome.next ((whenRunning_running selectorEvaluation running).trans ?_)
  exact if_pos ((evaluationDue_iff s).2 ⟨run, due⟩)

theorem evaluationStepped_selector (s : State) :
    (evaluationStepped s).selector = { s.selector with
      evalTimer := some (10 * s.store.geometry.head.selectionInterval)
      liveBias := steppedBias s } := by
  rw [evaluationStepped, biasStep_selector]
  rfl

theorem evaluationStepped_causeRaised {s : State} (rest : AtRest s) :
    (evaluationStepped s).causeRaised = true ↔ steppedBias s ≠ s.selector.liveBias := by
  have quiet : s.causeRaised = false := rest
  rw [evaluationStepped, biasStep_causeRaised]
  simp [quiet]
  rfl

/-- Settles O39: the bias step, then the matching step row by row. -/
theorem selectorEvaluates : Obligations.SelectorEvaluates := by
  intro s running rest run due
  have done := exec_evaluation running run due
  set w := evaluationStepped s with hw
  have selector : w.selector = _ := evaluationStepped_selector s
  have timebase : w.timebase = s.timebase := by simp [hw, evaluationStepped]
  have engine : w.engine = s.engine := by simp [hw, evaluationStepped]
  have found : selectionMatch w = selectionMatch s := by
    apply selectionMatch_congr <;> simp [hw, evaluationStepped]
  have frame := settle_matchingStep_frame w
  have newBias : (settle (matchingStep w)).selector.liveBias = steppedBias s := by
    rw [frame]
    exact congrArg Selector.liveBias selector
  have pin : w.selector.planPin = s.selector.planPin := by rw [selector]
  refine ⟨_, done, ?_, fun v pinned => ?_, fun free => ?_, fun same => ?_, fun pinned => ?_,
    fun free noMatch => ?_, fun e free first => ?_⟩
  · apply State.ext
    case selector => rw [frame]; dsimp only; rw [selector]
    case timebase => rw [frame, timebase]
    case causeRaised => rw [frame]; exact rest.symm
    case engine => rfl
    all_goals rw [frame]; simp [hw, evaluationStepped]
  · rw [newBias, steppedBias, if_pos (by simp [pinned])]
  · rw [newBias, steppedBias, if_neg (by simp [free])]
    exact slew_spec _ _
  · obtain ⟨c, n, eq⟩ | ⟨p, other, eq⟩ := matchingStep_cases w
    · refine settle_causeIf ?_ (by rw [eq]; exact engine)
      rw [newBias, ← evaluationStepped_causeRaised rest, eq]
      rfl
    · rw [eq, ← timebase] at same
      exact absurd (by simpa [setPendingPlan_timebase] using same) other
  · rw [matchingStep_pinned (by rwa [pin])]
    simp [timebase, selector]
  · rw [matchingStep_clears (by rwa [pin]) fun e hit =>
      absurd ⟨e, (selectionMatch_iff s e).1 (found ▸ hit)⟩ noMatch]
    simp [clearCandidate, timebase]
  · intro n known
    have hit : selectionMatch w = some e := found.trans ((selectionMatch_iff s e).2 first)
    have free : w.selector.planPin = none := by rwa [pin]
    have known_iff : (e.plan = w.timebase.active ∨ e.plan = w.timebase.pendingPlan) ↔ known := by
      rw [timebase]
    have count : countMatch w.selector e.plan = n := by rw [selector]; rfl
    refine ⟨fun isKnown => ?_, fun unknown few => ?_, fun unknown often => ?_⟩
    · rw [matchingStep_clears free fun e' hit' => by
        rw [Option.some.inj (hit'.symm.trans hit)]; exact known_iff.2 isKnown]
      simp [clearCandidate, timebase]
    · rw [matchingStep_counts free hit (mt known_iff.1 unknown) (by rwa [count])]
      simp [timebase, count]
    · obtain ⟨-, -, ⟨-, ⟨p, named, -⟩, -⟩, -⟩ := first
      rw [matchingStep_proposes free hit (mt known_iff.1 unknown) (by rwa [count])]
      refine ⟨by simp [clearCandidate], by simp [clearCandidate], by simp [setPendingPlan_timebase], ?_⟩
      refine settle_setPendingPlan_of_computed (by simpa [timebase] using run) (by simpa using engine) ?_
      rw [if_neg (by omega)]
      split
      · exact fun active => unknown (.inl (by simpa [timebase] using active))
      · exact fun pending => unknown (.inr (by simpa [timebase] using pending))

end Sys2Proof.Machine
end

section
/-! Reception on both ports: frames placed, ignored or discarded with one counter raised (R110, R152, R153,
R162). -/

namespace Sys2Proof.Machine

open Sys2Proof

/-! ### Complete frames (R152) -/

theorem char1_toNat {n : Nat} (small : n < 256) : (char1 n).toNat = n := by
  simp [char1, Nat.mod_eq_of_lt small]

theorem char2_length (n : Nat) : (char2 n).length = 2 := rfl

theorem assemble_chars {f : Frame} (short : f.payload.length ≤ 24) : assemble f.chars = .complete f := by
  obtain ⟨dest, src, kind, seq, payload⟩ := f
  have short : ¬ 24 < payload.length := Nat.not_lt.2 short
  have length : (char1 payload.length).toNat = payload.length := char1_toNat (by omega)
  simp [assemble, maxPayload, Frame.chars, Frame.body, length, short, char2_length]

/-- A frame with any other two characters behind it fails its check. -/
theorem assemble_wrongCheck {f : Frame} (short : f.payload.length ≤ 24) {lo hi : Byte}
    (wrong : [lo, hi] ≠ char2 (checkWord f.body)) : assemble (f.body ++ [lo, hi]) = .badCheck := by
  obtain ⟨dest, src, kind, seq, payload⟩ := f
  have short : ¬ 24 < payload.length := Nat.not_lt.2 short
  have length : (char1 payload.length).toNat = payload.length := char1_toNat (by omega)
  unfold Frame.body at wrong ⊢
  simp [assemble, maxPayload, Frame.body, length, short, wrong]

/-! ### The frames that end (R152, R162) -/

section
variable {s : State} {chars : List Byte}

theorem lineRxFault_eq (fault : RxFault) (s : State) : lineRxFault fault s =
    { s with line := { s.line with errors := counted s.line.errors fault } } := by
  rw [lineRxFault, RxCounters.raise_counted]
  rfl

theorem centreRxFault_eq (fault : RxFault) (s : State) : centreRxFault fault s =
    { s with centre := { s.centre with errors := counted s.centre.errors fault } } := by
  rw [centreRxFault, RxCounters.raise_counted]
  rfl

/-- A frame that the unit does not take changes nothing. -/
theorem lineReceive_ignored (ignored : ¬ Takes s chars) : lineReceive chars s = s :=
  if_neg (mt (takesFrame_iff s chars).1 ignored)

theorem lineReceive_complete {f : Frame} (taken : Takes s chars) (whole : assemble chars = .complete f) :
    lineReceive chars s = placeLineFrame f s := by
  simp [lineReceive, (takesFrame_iff s chars).2 taken, whole]

theorem lineReceive_badCheck (taken : Takes s chars) (wrong : assemble chars = .badCheck) :
    lineReceive chars s = lineRxFault .check s := by
  simp [lineReceive, (takesFrame_iff s chars).2 taken, wrong]

theorem centreReceive_complete {f : Frame} (whole : assemble chars = .complete f) :
    centreReceive chars s = placeCentreFrame f s := by
  simp [centreReceive, whole]

theorem centreReceive_badCheck (wrong : assemble chars = .badCheck) :
    centreReceive chars s = centreRxFault .check s := by
  simp [centreReceive, wrong]

/-- A frame finds one of the 4 places, or is an overrun. -/
theorem placeLineFrame_eq (f : Frame) (s : State) : placeLineFrame f s =
    if s.line.rx.length < 4 then { s with line := { s.line with rx := s.line.rx ++ [f] } }
    else { s with line := { s.line with errors := counted s.line.errors .overrun } } := by
  rw [placeLineFrame, lineRxFault_eq]
  rfl

/-- A frame finds one of the 4 places and sets the silence timer to 0, or is an overrun. -/
theorem placeCentreFrame_eq (f : Frame) (s : State) : placeCentreFrame f s =
    if s.centre.rx.length < 4 then
      { s with centre := { s.centre with rx := s.centre.rx ++ [f] }
               selector := { s.selector with silence := 0 } }
    else { s with centre := { s.centre with errors := counted s.centre.errors .overrun } } := by
  rw [placeCentreFrame, centreRxFault_eq]
  rfl

/-! ### The frames that are discarded (R153) -/

theorem lineDiscard_counts {fault : RxFault} (shown : FaultShown chars s.line.rx.length fault)
    (counts : Takes s chars ∨ chars = []) : lineDiscard fault chars s = lineRxFault fault s := by
  refine if_pos ?_
  rw [Bool.and_eq_true, faultStands_iff, Bool.or_eq_true, takesFrame_iff, List.isEmpty_iff]
  exact ⟨shown, counts.symm⟩

theorem lineDiscard_ignored {fault : RxFault}
    (h : ¬ FaultShown chars s.line.rx.length fault ∨ (chars ≠ [] ∧ ¬ Takes s chars)) :
    lineDiscard fault chars s = s := by
  refine if_neg ?_
  rw [Bool.and_eq_true, faultStands_iff, Bool.or_eq_true, takesFrame_iff, List.isEmpty_iff]
  rintro ⟨shown, counts⟩
  rcases h with hidden | ⟨begun, other⟩
  · exact hidden shown
  · exact counts.elim begun other

theorem centreDiscard_eq (fault : RxFault) (chars : List Byte) (s : State) :
    (FaultShown chars s.centre.rx.length fault →
      centreDiscard fault chars s = centreRxFault fault s) ∧
    (¬ FaultShown chars s.centre.rx.length fault → centreDiscard fault chars s = s) := by
  rw [← faultStands_iff]
  exact ⟨fun shown => if_pos shown, fun hidden => if_neg hidden⟩

end

/-- Settles O53: each frame by what its characters assemble into, each fault by whether it stands. -/
theorem framesReceivedOrDiscarded : Obligations.FramesReceivedOrDiscarded := by
  have acts {act : State → State} {s u : State} (running : s.inReset = false) (h : act s = u) :
      (.next (whenRunning act s) : Host.Outcome State Fault Refusal) = .next u :=
    congrArg _ ((whenRunning_running act running).trans h)
  refine ⟨fun s f lo hi running short => ?_, fun s fault chars running => ?_⟩
  · intro bad wrong line centre
    have whole := assemble_chars short
    have broken : wrong → assemble bad = .badCheck := assemble_wrongCheck short
    refine ⟨fun other => acts running (lineReceive_ignored other),
      fun other _ => acts running (lineReceive_ignored other), fun taken room => acts running ?_,
      fun taken full => acts running ?_, fun taken w => acts running ?_, fun room => acts running ?_,
      fun full => acts running ?_, fun w => acts running ?_⟩
    · rw [lineReceive_complete taken whole, placeLineFrame_eq, if_pos room]
    · rw [lineReceive_complete taken whole, placeLineFrame_eq, if_neg (Nat.not_lt.2 full)]
    · rw [lineReceive_badCheck taken (broken w), lineRxFault_eq]
    · rw [centreReceive_complete whole, placeCentreFrame_eq, if_pos room]
    · rw [centreReceive_complete whole, placeCentreFrame_eq, if_neg (Nat.not_lt.2 full)]
    · rw [centreReceive_badCheck (broken w), centreRxFault_eq]
  · intro shown
    obtain ⟨counts, stays⟩ := centreDiscard_eq fault chars s
    refine ⟨fun stands taken => acts running ?_, fun h => acts running (lineDiscard_ignored h),
      fun stands => acts running ?_, fun hidden => acts running (stays hidden)⟩
    · rw [lineDiscard_counts stands taken, lineRxFault_eq]
    · rw [counts stands, centreRxFault_eq]

end Sys2Proof.Machine
end

section
/-! What a junction's reports and its loss do to the levels it measures and the link-directions it reports
(R93 to R97, R113 to R116, R120). -/

namespace Sys2Proof.Machine

open Sys2Proof

/-! ### The link-directions of a junction (R94, R113) -/

theorem inboundBefore_eq_some_iff {n : Nat} {j : Junction} {k : LinkIndex} :
    inboundBefore n j = some k ↔ k.val + 1 = j.val ∧ j.val < n := by
  unfold inboundBefore
  split
  · rw [Option.some_inj, Fin.ext_iff]
    simp only
    omega
  · simp only [reduceCtorEq, false_iff]
    omega

theorem outboundAfter_eq_some_iff {n : Nat} {j : Junction} {k : LinkIndex} :
    outboundAfter n j = some k ↔ k.val = j.val ∧ j.val + 1 < n := by
  unfold outboundAfter
  split
  · rw [Option.some_inj, Fin.ext_iff]
    simp only
    omega
  · simp only [reduceCtorEq, false_iff]
    omega

/-! ### One entry of a table changed, if there is one to change -/

/-- The table with the entry at `k`, if `k` is one, changed by `f`. -/
def changeAt {α : Type} {n : Nat} (v : Vector α n) (k : Option (Fin n)) (f : α → α) : Vector α n :=
  match k with
  | none => v
  | some k => v.set k.val (f v[k]) k.isLt

section
variable {α β : Type} {n : Nat} (v : Vector α n) (k : Option (Fin n)) (f : α → α)

theorem changeAt_getElem (i : Fin n) : (changeAt v k f)[i] = if k = some i then f v[i] else v[i] := by
  cases k with
  | none => rfl
  | some k =>
    by_cases same : k = i
    · subst same
      simp [changeAt]
    · rw [if_neg (by simpa using same)]
      exact Vector.getElem_set_ne k.isLt i.isLt fun h => same (Fin.ext h)

/-- Each entry of a changed table has moved as `f` moves it, or stands. -/
theorem changeAt_moved {moved : α → α → Prop} (steps : ∀ a, moved a (f a)) {i : Fin n} {here : Prop}
    [Decidable here] (h : k = some i ↔ here) :
    if here then moved v[i] (changeAt v k f)[i] else (changeAt v k f)[i] = v[i] := by
  rw [changeAt_getElem]
  by_cases at' : here
  · rw [if_pos at', if_pos (h.2 at')]
    exact steps _
  · rw [if_neg at', if_neg (mt h.1 at')]

/-- What is changed in a table is changed at its one entry. -/
theorem exists_changeAt_ne (part : α → β) :
    (∃ i : Fin n, part (changeAt v k f)[i] ≠ part v[i]) ↔ ∃ i : Fin n, k = some i ∧ part v[i] ≠ part (f v[i]) := by
  refine exists_congr fun i => ?_
  rw [changeAt_getElem]
  split
  · next here => simp [here, eq_comm]
  · next elsewhere => simp [elsewhere]

end

/-- Of a list that holds every entry once, the entries that say nothing but for one. -/
theorem flatMap_eq_single {α β : Type} {l : List α} (distinct : l.Nodup) (k : Option α)
    (mem : ∀ i, k = some i → i ∈ l) (f : α → List β) (silent : ∀ i, k ≠ some i → f i = []) :
    l.flatMap f = k.elim [] f := by
  cases k with
  | none => exact List.flatMap_eq_nil_iff.2 fun i _ => silent i (by simp)
  | some k =>
    obtain ⟨before, after, rfl⟩ := List.append_of_mem (mem k rfl)
    have apart : ∀ i ∈ before ++ after, f i = [] := fun i hi => silent i fun same => by
      rw [Option.some_inj.1 same] at distinct
      exact (List.nodup_middle.1 distinct |> List.nodup_cons.1).1 hi
    have first : before.flatMap f = [] :=
      List.flatMap_eq_nil_iff.2 fun i hi => apart i (List.mem_append_left _ hi)
    have last : after.flatMap f = [] :=
      List.flatMap_eq_nil_iff.2 fun i hi => apart i (List.mem_append_right _ hi)
    simp [first, last]

/-! ### Levels (R95, R97) -/

section
variable (k : Option LinkIndex) (v : Nat) (s : State)

theorem stepLevel_inbound : (stepLevel .inbound k v s).demand = { s.demand with
    levelIn := changeAt s.demand.levelIn k fun l => levelStep s.store.geometry.head l v } := by
  cases k <;> simp [stepLevel, setLevel, levelOf, changeAt]

theorem stepLevel_outbound : (stepLevel .outbound k v s).demand = { s.demand with
    levelOut := changeAt s.demand.levelOut k fun l => levelStep s.store.geometry.head l v } := by
  cases k <;> simp [stepLevel, setLevel, levelOf, changeAt]

theorem clearLevel_inbound : (clearLevel .inbound k s).demand = { s.demand with
    levelIn := changeAt s.demand.levelIn k fun _ => 0 } := by
  cases k <;> simp [clearLevel, setLevel, changeAt]

theorem clearLevel_outbound : (clearLevel .outbound k s).demand = { s.demand with
    levelOut := changeAt s.demand.levelOut k fun _ => 0 } := by
  cases k <;> simp [clearLevel, setLevel, changeAt]

/-- A level that changes is a cause (R95). -/
theorem setLevel_causeRaised (d : Direction) (k : LinkIndex) :
    (setLevel d k v s).causeRaised = true ↔ s.causeRaised = true ∨ levelOf s.demand d k ≠ v := by
  cases d <;> simp [setLevel, raiseCauseIf_causeRaised, levelOf]

theorem stepLevel_causeRaised (d : Direction) : (stepLevel d k v s).causeRaised = true ↔
    s.causeRaised = true ∨ ∃ i, k = some i ∧ levelOf s.demand d i ≠
      levelStep s.store.geometry.head (levelOf s.demand d i) v := by
  cases k with
  | none => simp [stepLevel]
  | some k => simp [stepLevel, setLevel_causeRaised]

end

/-- One level step (R95). -/
theorem levelStep_moved (h : GeometryHead) (level v : Nat) : LevelMoved h level v (levelStep h level v) := by
  unfold LevelMoved levelStep
  by_cases rises : level < 3 ∧ riseThreshold h (level + 1) ≤ v
  · simp [rises]
  · by_cases falls : 0 < level ∧ v < fallThreshold h level
    · rw [if_neg rises, if_pos falls]
      exact .inr (.inl ⟨rises, falls.1, falls.2, rfl⟩)
    · rw [if_neg rises, if_neg falls]
      exact .inr (.inr ⟨rises, falls, rfl⟩)

/-! ### Spill states (R114, R116, R120) -/

section
variable (k : Option LinkIndex) (flag : Bool) (j : Junction) (s : State)

theorem stepSpill_inbound : (stepSpill .inbound k flag j s).gate = { s.gate with
    inbound := changeAt s.gate.inbound k fun v => spillStep s.store.geometry.head.holdOff v flag } := by
  cases k <;> simp [stepSpill, writeSpill_gate, spillOf, changeAt]

theorem stepSpill_outbound : (stepSpill .outbound k flag j s).gate = { s.gate with
    outbound := changeAt s.gate.outbound k fun v => spillStep s.store.geometry.head.holdOff v flag } := by
  cases k <;> simp [stepSpill, writeSpill_gate, spillOf, changeAt]

theorem clearSpill_inbound (i : Nat) (reason : SpillReason) :
    (clearSpill .inbound k i reason s).gate = { s.gate with
      inbound := changeAt s.gate.inbound k fun _ => .clear } := by
  cases k <;> simp [clearSpill, writeSpill_gate, changeAt]

theorem clearSpill_outbound (i : Nat) (reason : SpillReason) :
    (clearSpill .outbound k i reason s).gate = { s.gate with
      outbound := changeAt s.gate.outbound k fun _ => .clear } := by
  cases k <;> simp [clearSpill, writeSpill_gate, changeAt]

theorem stepSpill_causeRaised (d : Direction) : (stepSpill d k flag j s).causeRaised = true ↔
    s.causeRaised = true ∨ ∃ i, k = some i ∧ (spillOf s.gate d i).isSet ≠
      (spillStep s.store.geometry.head.holdOff (spillOf s.gate d i) flag).isSet := by
  cases k with
  | none => simp [stepSpill]
  | some k => simp [stepSpill]

theorem spillNotice_same (d : Direction) (i : LinkIndex) (v : Spill) (at' : Nat) (reason : SpillReason) :
    spillNotice d i v v at' reason = [] := if_pos rfl

/-- The notices of a table of link-directions with one entry changed, at most one (R116). -/
theorem spillNotices_changeAt {l : List LinkIndex} (distinct : l.Nodup) (mem : ∀ i, k = some i → i ∈ l)
    (d : Direction) (v : Vector Spill 11) (f : Spill → Spill) (at' : Nat) (reason : SpillReason) :
    (l.flatMap fun i => spillNotice d i v[i] (changeAt v k f)[i] at' reason) =
      k.elim [] fun i => spillNotice d i v[i] (f v[i]) at' reason := by
  rw [flatMap_eq_single distinct k mem]
  · cases k with
    | none => rfl
    | some k => simp [changeAt]
  · intro i elsewhere
    rw [changeAt_getElem, if_neg elsewhere, spillNotice_same]

theorem stepSpill_spoke (d : Direction) : Spoke s (stepSpill d k flag j s) []
    (k.elim [] fun i => spillNotice d i (spillOf s.gate d i)
      (spillStep s.store.geometry.head.holdOff (spillOf s.gate d i) flag) j.val
      (if flag then .flag else .clearRun)) := by
  cases k with
  | none => exact .of_eq rfl rfl rfl
  | some k => exact setSpill_spoke d k _ j.val _ s

theorem clearSpill_spoke (d : Direction) (i : Nat) (reason : SpillReason) :
    Spoke s (clearSpill d k i reason s) []
      (k.elim [] fun x => spillNotice d x (spillOf s.gate d x) .clear i reason) := by
  cases k with
  | none => exact .of_eq rfl rfl rfl
  | some k => exact setSpill_spoke d k _ i reason s

end

/-- One step of a spill state (R114). -/
theorem spillStep_moved (holdOff : Nat) (v : Spill) (flag : Bool) :
    SpillMoved holdOff v flag (spillStep holdOff v flag) := by
  obtain ⟨isSet, run⟩ := v
  cases flag
  · cases isSet
    · simp [SpillMoved, spillStep]
    · refine ⟨by simp, by simp, fun _ _ last => if_pos last, fun _ _ more => if_neg (Nat.not_le.2 more)⟩
  · cases isSet <;> simp [SpillMoved, spillStep]

/-! ### What a report and a loss do (R93 to R97, R113 to R116, R120) -/

section
variable (j : Junction) (prior : RosterState) (b : ReportBody) (s : State)

/-- The smoothed occupancies after a report (R93). -/
theorem smooth_eq (held new : Nat) : smooth prior held new =
    if prior = .silent ∨ prior = .lost then new else (3 * held + new + 2) / 4 := by
  cases prior <;> simp [smooth]

/-- The demand fields of junction j after a report (R92, R93). -/
def reportedDemand : JunctionDemand :=
  { sIn := smooth prior s.demand.junctions[j].sIn (min 1000 b.inOccupancy)
    sOut := smooth prior s.demand.junctions[j].sOut (min 1000 b.outOccupancy)
    inVolume := b.inVolume, outVolume := b.outVolume }

theorem demandReport_eq : demandReport j prior b s =
    stepLevel .outbound (outboundAfter (junctionCount s) j) (reportedDemand j prior b s).sOut
      (stepLevel .inbound (inboundBefore (junctionCount s) j) (reportedDemand j prior b s).sIn
        (setJunctionDemand s j (reportedDemand j prior b s))) := rfl

theorem demandReport_demand :
    let new := reportedDemand j prior b s
    let step := levelStep s.store.geometry.head
    (demandReport j prior b s).demand =
      { junctions := s.demand.junctions.set j.val new j.isLt
        levelIn := changeAt s.demand.levelIn (inboundBefore (junctionCount s) j) (step · new.sIn)
        levelOut := changeAt s.demand.levelOut (outboundAfter (junctionCount s) j) (step · new.sOut) } := by
  simp [demandReport_eq, stepLevel_outbound, stepLevel_inbound, setJunctionDemand]

theorem demandReport_causeRaised :
    let u := demandReport j prior b s
    u.causeRaised = true ↔ s.causeRaised = true ∨
      (∃ k : LinkIndex, u.demand.levelIn[k] ≠ s.demand.levelIn[k]) ∨
      ∃ k : LinkIndex, u.demand.levelOut[k] ≠ s.demand.levelOut[k] := by
  intro u
  have levels : u.demand = _ := demandReport_demand j prior b s
  have inbound := exists_changeAt_ne s.demand.levelIn (inboundBefore (junctionCount s) j)
    (levelStep s.store.geometry.head · (reportedDemand j prior b s).sIn) id
  have outbound := exists_changeAt_ne s.demand.levelOut (outboundAfter (junctionCount s) j)
    (levelStep s.store.geometry.head · (reportedDemand j prior b s).sOut) id
  simp only [id] at inbound outbound
  rw [levels, inbound, outbound]
  show (demandReport j prior b s).causeRaised = true ↔ _
  rw [demandReport_eq, stepLevel_causeRaised, stepLevel_causeRaised, stepLevel_inbound]
  simp [setJunctionDemand, levelOf, or_assoc]

theorem demandLost_demand : (demandLost j s).demand = { s.demand with
    levelIn := changeAt s.demand.levelIn (inboundBefore (junctionCount s) j) fun _ => 0
    levelOut := changeAt s.demand.levelOut (outboundAfter (junctionCount s) j) fun _ => 0 } := by
  simp [demandLost, clearLevel_outbound, clearLevel_inbound]

theorem gateReport_gate :
    let step := spillStep s.store.geometry.head.holdOff
    (gateReport j b s).gate =
      { inbound := changeAt s.gate.inbound (inboundExit (junctionCount s) j) (step · b.inExit)
        outbound := changeAt s.gate.outbound (outboundExit (junctionCount s) j) (step · b.outExit) } := by
  simp [gateReport, stepSpill_outbound, stepSpill_inbound]

theorem gateReport_causeRaised :
    let u := gateReport j b s
    u.causeRaised = true ↔ s.causeRaised = true ∨
      (∃ k : LinkIndex, u.gate.inbound[k].isSet ≠ s.gate.inbound[k].isSet) ∨
      ∃ k : LinkIndex, u.gate.outbound[k].isSet ≠ s.gate.outbound[k].isSet := by
  intro u
  rw [gateReport_gate, exists_changeAt_ne _ _ _ Spill.isSet, exists_changeAt_ne _ _ _ Spill.isSet]
  show (gateReport j b s).causeRaised = true ↔ _
  rw [gateReport, stepSpill_causeRaised, stepSpill_causeRaised, stepSpill_inbound]
  simp [spillOf, or_assoc]

/-- A report's exit flags tell their changes, inbound before outbound (R116; log 9). -/
theorem gateReport_spoke :
    let u := gateReport j b s
    Spoke s u []
      ((allLinks.flatMap fun k => spillNotice .inbound k s.gate.inbound[k] u.gate.inbound[k] j.val
          (if b.inExit then .flag else .clearRun)) ++
        allLinks.flatMap fun k => spillNotice .outbound k s.gate.outbound[k] u.gate.outbound[k] j.val
          (if b.outExit then .flag else .clearRun)) := by
  intro u
  have told := (stepSpill_spoke (inboundExit (junctionCount s) j) b.inExit j s .inbound).trans
    (stepSpill_spoke (outboundExit (junctionCount s) j) b.outExit j _ .outbound)
  rw [gateReport_gate, spillNotices_changeAt _ allLinks_nodup fun i _ => mem_allLinks i,
    spillNotices_changeAt _ allLinks_nodup fun i _ => mem_allLinks i]
  simpa [u, gateReport, stepSpill_inbound, spillOf] using told

theorem gateLost_gate : (gateLost j s).gate =
    { inbound := changeAt s.gate.inbound (inboundExit (junctionCount s) j) fun _ => .clear
      outbound := changeAt s.gate.outbound (outboundExit (junctionCount s) j) fun _ => .clear } := by
  simp [gateLost, clearSpill_outbound, clearSpill_inbound]

/-- A loss tells the link-directions that it makes CLEAR, inbound before outbound (R116, R120; log 9). -/
theorem gateLost_spoke :
    let u := gateLost j s
    Spoke s u []
      (((allLinks.filter fun k => decide (k.val = j.val)).flatMap fun k =>
          spillNotice .inbound k s.gate.inbound[k] u.gate.inbound[k] j.val .lost) ++
        (allLinks.filter fun k => decide (k.val + 1 = j.val)).flatMap fun k =>
          spillNotice .outbound k s.gate.outbound[k] u.gate.outbound[k] j.val .lost) := by
  intro u
  have told := (clearSpill_spoke (inboundExit (junctionCount s) j) s .inbound j.val .lost).trans
    (clearSpill_spoke (outboundExit (junctionCount s) j) _ .outbound j.val .lost)
  rw [gateLost_gate, spillNotices_changeAt _ (allLinks_nodup.filter _) fun i reported => ?_,
    spillNotices_changeAt _ (allLinks_nodup.filter _) fun i reported => ?_]
  · simpa [u, gateLost, clearSpill_inbound, spillOf] using told
  · exact List.mem_filter.2 ⟨mem_allLinks i, by simp [(inboundBefore_eq_some_iff.1 reported).1]⟩
  · exact List.mem_filter.2 ⟨mem_allLinks i, by simp [(outboundAfter_eq_some_iff.1 reported).1]⟩

end

end Sys2Proof.Machine
end

section
/-! REPORT: the roster, the Demand Monitor and the Spillback Gate after an accepted report (R142, R143,
R148). -/

namespace Sys2Proof.Machine

open Sys2Proof

/-! ### REPORT answered (R142) -/

theorem Admits.reportMade {s : State} {t : Taken} {b : ReportBody} (h : Admits s t (.report b)) :
    Carries s t .report parseReport b :=
  h.carries rfl (fun _ => rfl) fun _ _ => Request.report.inj

theorem answerReport_code {t : Taken} {j : Junction} (sender : t.sender = .junction j) (b : ReportBody)
    (s : State) : (answerReport t b s).code =
      if 2 ≤ s.roster.junctions[j].reports then .throttled else .ok := by
  simp [answerReport, sender, firstRefusal_cons]

theorem answerReport_result (t : Taken) (b : ReportBody) (s : State) :
    (answerReport t b s).result = [] := by
  unfold answerReport
  split <;> rfl

theorem LineQuiet.trans {s v u : State} (h : LineQuiet s v) (h' : LineQuiet v u) : LineQuiet s u := by
  obtain ⟨state, errors, drops, missed, beats, steers, credits⟩ := h
  obtain ⟨state', errors', drops', missed', beats', steers', credits'⟩ := h'
  exact ⟨state'.trans state, errors'.trans errors, drops'.trans drops, missed'.trans missed,
    beats'.trans beats, steers'.trans steers, credits.trans credits'⟩

/-- The REPLY queue holds the reply to a frame of the line beside what it held (R154). -/
theorem answered_lineReplyCount (s : State) (t : Taken) (c : ReplyCode) (r : List Byte) :
    lineReplyCount (answered s t c r).line = queuedWithReply s t := by
  obtain ⟨⟨-, reply, others⟩, -⟩ := answered_replied s t c r
  simp only [lineReplyCount_eq, queuedWithReply]
  cases port : t.port with
  | line =>
    rw [port] at reply
    have := congrArg List.length reply
    simpa [queuedReplies] using this
  | centre =>
    rw [port] at others
    have := congrArg List.length others
    simpa [queuedReplies, Port.other] using this

/-! ### An accepted report (R143) -/

section
variable (j : Junction) (b : ReportBody) (s : State)

/-- The roster entry of junction j after a report (R143). -/
def heardEntry : RosterEntry :=
  { state := afterReport s.roster.junctions[j].state, misses := 0
    reports := s.roster.junctions[j].reports + 1, following := b.following }

/-- The roster hears the junction; a change of its following, and its return from LOST, is a cause. -/
def reportHeard : State :=
  raiseCauseIf (decide (s.roster.junctions[j].following ≠ b.following) ||
    decide (s.roster.junctions[j].state = .lost)) (setRosterEntry s j (heardEntry j b s))

/-- The Demand Monitor and the gate have taken the report. -/
def reportMonitored : State :=
  gateReport j b (demandReport j s.roster.junctions[j].state b (reportHeard j b s))

/-- The entries of junction j are dropped when it does not follow. -/
def reportDropped : State :=
  if b.following then reportMonitored j b s
  else dropEntries (fun e => decide (e.junction = j)) .notFollowing (reportMonitored j b s)

/-- The entries that a report drops. -/
def unfollowedEntries : List PriorityEntry :=
  if b.following then [] else s.priority.list.filter fun e => decide (e.junction = j)

theorem acceptReport_eq : acceptReport j b s =
    if afterReport s.roster.junctions[j].state = .linked ∧ s.roster.junctions[j].state ≠ .linked then
      junctionNotice j s.roster.junctions[j].state .linked 0 (reportDropped j b s)
    else reportDropped j b s := rfl

theorem reportHeard_causeRaised : (reportHeard j b s).causeRaised = true ↔ s.causeRaised = true ∨
    s.roster.junctions[j].following ≠ b.following ∨ s.roster.junctions[j].state = .lost := by
  rw [reportHeard, raiseCauseIf_causeRaised]
  simp

theorem reportHeard_frame : reportHeard j b s = { s with
    roster := { s.roster with
      junctions := s.roster.junctions.set j.val (heardEntry j b s) j.isLt }
    causeRaised := (reportHeard j b s).causeRaised } := by
  apply State.ext <;> simp [reportHeard, setRosterEntry]

theorem reportMonitored_frame : reportMonitored j b s = { s with
    roster := { s.roster with
      junctions := s.roster.junctions.set j.val (heardEntry j b s) j.isLt }
    demand := (reportMonitored j b s).demand, gate := (reportMonitored j b s).gate
    centre := (reportMonitored j b s).centre
    causeRaised := (reportMonitored j b s).causeRaised } := by
  apply State.ext
  case demand => rfl
  case gate => rfl
  case centre => rfl
  case causeRaised => rfl
  all_goals simp only [reportMonitored, gateReport_frame, demandReport_frame]
  all_goals rw [reportHeard_frame]

theorem reportMonitored_demand :
    let new := reportedDemand j s.roster.junctions[j].state b s
    let step := levelStep s.store.geometry.head
    (reportMonitored j b s).demand =
      { junctions := s.demand.junctions.set j.val new j.isLt
        levelIn := changeAt s.demand.levelIn (inboundBefore (junctionCount s) j) (step · new.sIn)
        levelOut := changeAt s.demand.levelOut (outboundAfter (junctionCount s) j) (step · new.sOut) } := by
  simp only [reportMonitored, gateReport_frame]
  rw [demandReport_demand, reportHeard_frame]
  rfl

theorem reportMonitored_gate :
    let step := spillStep s.store.geometry.head.holdOff
    (reportMonitored j b s).gate =
      { inbound := changeAt s.gate.inbound (outboundAfter (junctionCount s) j) (step · b.inExit)
        outbound := changeAt s.gate.outbound (inboundBefore (junctionCount s) j) (step · b.outExit) } := by
  rw [reportMonitored, gateReport_gate]
  simp only [junctionCount, demandReport_frame]
  rw [reportHeard_frame]
  rfl

/-- Every link-direction that junction j measures takes one level step at most, and every one whose exit it
reports one spill step (R95, R114). -/
theorem reportMonitored_links (k : LinkIndex) :
    let u := reportMonitored j b s
    let new := reportedDemand j s.roster.junctions[j].state b s
    let geo := s.store.geometry.head
    let n := junctionCount s
    (if k.val + 1 = j.val ∧ j.val < n
      then LevelMoved geo s.demand.levelIn[k] new.sIn u.demand.levelIn[k]
      else u.demand.levelIn[k] = s.demand.levelIn[k]) ∧
    (if k.val = j.val ∧ j.val + 1 < n
      then LevelMoved geo s.demand.levelOut[k] new.sOut u.demand.levelOut[k]
      else u.demand.levelOut[k] = s.demand.levelOut[k]) ∧
    (if k.val = j.val ∧ j.val + 1 < n
      then SpillMoved geo.holdOff s.gate.inbound[k] b.inExit u.gate.inbound[k]
      else u.gate.inbound[k] = s.gate.inbound[k]) ∧
    (if k.val + 1 = j.val ∧ j.val < n
      then SpillMoved geo.holdOff s.gate.outbound[k] b.outExit u.gate.outbound[k]
      else u.gate.outbound[k] = s.gate.outbound[k]) := by
  intro u new geo n
  have demand : u.demand = _ := reportMonitored_demand j b s
  have gate : u.gate = _ := reportMonitored_gate j b s
  rw [demand, gate]
  refine ⟨?_, ?_, ?_, ?_⟩
  · exact changeAt_moved (moved := fun old => LevelMoved geo old new.sIn) _ _ _
      (fun level => levelStep_moved geo level new.sIn) inboundBefore_eq_some_iff
  · exact changeAt_moved (moved := fun old => LevelMoved geo old new.sOut) _ _ _
      (fun level => levelStep_moved geo level new.sOut) outboundAfter_eq_some_iff
  · exact changeAt_moved (moved := fun old => SpillMoved geo.holdOff old b.inExit) _ _ _
      (fun old => spillStep_moved geo.holdOff old b.inExit) outboundAfter_eq_some_iff
  · exact changeAt_moved (moved := fun old => SpillMoved geo.holdOff old b.outExit) _ _ _
      (fun old => spillStep_moved geo.holdOff old b.outExit) inboundBefore_eq_some_iff

/-- The causes of a report: what the roster hears, and every level and spill state that changes (R28). -/
theorem reportMonitored_causeRaised :
    let u := reportMonitored j b s
    u.causeRaised = true ↔ s.causeRaised = true ∨
      (s.roster.junctions[j].following ≠ b.following ∨ s.roster.junctions[j].state = .lost) ∨
      ∃ k : LinkIndex, u.demand.levelIn[k] ≠ s.demand.levelIn[k] ∨
        u.demand.levelOut[k] ≠ s.demand.levelOut[k] ∨
        u.gate.inbound[k].isSet ≠ s.gate.inbound[k].isSet ∨
        u.gate.outbound[k].isSet ≠ s.gate.outbound[k].isSet := by
  intro u
  set v := reportHeard j b s with hv
  set w := demandReport j s.roster.junctions[j].state b v with hw
  have levels : u.demand = w.demand := by simp [u, reportMonitored, hv, hw]
  have spills : w.gate = s.gate := by simp [hw, hv, reportHeard]
  have before : v.demand = s.demand := by simp [hv, reportHeard]
  have gate : u.causeRaised = true ↔ _ := gateReport_causeRaised j b w
  have demand : w.causeRaised = true ↔ _ := demandReport_causeRaised j s.roster.junctions[j].state b v
  rw [gate, demand, reportHeard_causeRaised, levels]
  simp only [exists_or, or_assoc, spills, before]
  rfl

theorem reportMonitored_spoke :
    let u := reportMonitored j b s
    Spoke s u []
      ((allLinks.flatMap fun k => spillNotice .inbound k s.gate.inbound[k] u.gate.inbound[k] j.val
          (if b.inExit then .flag else .clearRun)) ++
        allLinks.flatMap fun k => spillNotice .outbound k s.gate.outbound[k] u.gate.outbound[k] j.val
          (if b.outExit then .flag else .clearRun)) := by
  intro u
  set w := demandReport j s.roster.junctions[j].state b (reportHeard j b s) with hw
  have gate : w.gate = s.gate := by simp [hw, reportHeard]
  have told := gateReport_spoke j b w
  rw [gate] at told
  refine told.after_eq ?_ ?_ ?_ <;> simp [hw, reportHeard]

/-! ### The drops and the notice of an accepted report (R136, R148) -/

theorem reportDropped_frame : reportDropped j b s = { reportMonitored j b s with
    priority := { s.priority with
      list := if b.following then s.priority.list
        else s.priority.list.filter fun e => decide (e.junction ≠ j) }
    line := (reportDropped j b s).line, centre := (reportDropped j b s).centre } := by
  have priority : (reportMonitored j b s).priority = s.priority := by rw [reportMonitored_frame]
  unfold reportDropped
  split
  · apply State.ext <;> simp [priority]
  · have dropped := dropEntries_priority_key (s := reportMonitored j b s)
      (fun e => decide (e.junction = j)) .notFollowing fun e x same _ => by rw [same]
    apply State.ext
    case priority => rw [dropped, priority]; simp
    all_goals simp

theorem reportDropped_spoke : Spoke (reportMonitored j b s) (reportDropped j b s)
    (outcomesPlaced (.dropped .notFollowing) (unfollowedEntries j b s) (lineReplyCount s.line))
    (outcomeNotices (.dropped .notFollowing) (unfollowedEntries j b s) (lineReplyCount s.line)) := by
  have priority : (reportMonitored j b s).priority = s.priority := by rw [reportMonitored_frame]
  have line : (reportMonitored j b s).line = s.line := by rw [reportMonitored_frame]
  unfold reportDropped unfollowedEntries
  split
  · simpa [outcomesPlaced, outcomeNotices] using
      Spoke.of_eq (s := reportMonitored j b s) (u := reportMonitored j b s) rfl rfl rfl
  · have told := dropEntries_spoke (fun e => decide (e.junction = j)) .notFollowing (reportMonitored j b s)
    rwa [priority, line] at told

/-- What an accepted report makes of every block. -/
theorem acceptReport_blocks : acceptReport j b s = { s with
    roster := { s.roster with
      junctions := s.roster.junctions.set j.val (heardEntry j b s) j.isLt }
    demand := (reportMonitored j b s).demand, gate := (reportMonitored j b s).gate
    priority := { s.priority with
      list := if b.following then s.priority.list
        else s.priority.list.filter fun e => decide (e.junction ≠ j) }
    line := (acceptReport j b s).line, centre := (acceptReport j b s).centre
    causeRaised := (reportMonitored j b s).causeRaised } := by
  have noticed : acceptReport j b s = { reportDropped j b s with
      centre := (acceptReport j b s).centre } := by
    rw [acceptReport_eq]
    split
    · apply State.ext <;> simp
    · rfl
  apply State.ext
  case line => rfl
  case centre => rfl
  all_goals rw [noticed, reportDropped_frame]
  all_goals rw [reportMonitored_frame]

/-- What an accepted report tells: its spill notices, its drops, and the entry into LINKED last. -/
theorem acceptReport_spoke :
    let u := reportMonitored j b s
    let old := s.roster.junctions[j]
    Spoke s (acceptReport j b s)
      (outcomesPlaced (.dropped .notFollowing) (unfollowedEntries j b s) (lineReplyCount s.line))
      ((allLinks.flatMap fun k => spillNotice .inbound k s.gate.inbound[k] u.gate.inbound[k] j.val
          (if b.inExit then .flag else .clearRun)) ++
        (allLinks.flatMap fun k => spillNotice .outbound k s.gate.outbound[k] u.gate.outbound[k] j.val
          (if b.outExit then .flag else .clearRun)) ++
        outcomeNotices (.dropped .notFollowing) (unfollowedEntries j b s) (lineReplyCount s.line) ++
        (if afterReport old.state = .linked ∧ old.state ≠ .linked
          then [.junctionState j s.store.geometry.entries[j].address old.state .linked 0] else [])) := by
  intro u old
  have told := (reportMonitored_spoke j b s).trans (reportDropped_spoke j b s)
  have store : (reportDropped j b s).store = s.store := by
    rw [reportDropped_frame, reportMonitored_frame]
  rw [acceptReport_eq]
  split
  · have linked := told.trans (queueNotice_spoke
      (.junctionState j s.store.geometry.entries[j].address old.state .linked 0) (reportDropped j b s))
    rw [junctionNotice, store]
    simpa [u, old] using linked
  · simpa using told

/-- A report touches no steer. -/
theorem acceptReport_steers : lineSteers (acceptReport j b s).line = lineSteers s.line := by
  have monitored : (reportMonitored j b s).line = s.line := by rw [reportMonitored_frame]
  have dropped : lineSteers (reportDropped j b s).line = lineSteers s.line := by
    unfold reportDropped
    split <;> simp [monitored]
  rw [acceptReport_eq]
  split <;> simp [dropped]

end

/-- Settles O42: the answer, then the report block by block on the answered state. -/
theorem reportTaken : Obligations.ReportTaken := by
  intro s t b j rest h sender
  have carries := h.reportMade
  have code := answerReport_code sender b (takeFrame t.port s)
  simp only [takeFrame_frame] at code
  refine ⟨fun third => ?_, fun room => ?_⟩
  · exact carries.refused (answer := answerReport) rfl (by rw [code, if_pos third]) (by decide)
  intro old n geo seeds held sIn sOut after dropped
  have accepted := carries.accepted (answer := answerReport) (effect := effectReport) (c := .report) rfl
    (by rw [code, if_neg (Nat.not_le.2 room)]) (answerReport_result t b _)
  set v := answered s t .ok [] with hv
  have effect : effectReport t b v = acceptReport j b v := by simp [effectReport, sender]
  rw [effect] at accepted
  set x := reportMonitored j b v with hx
  have demand : x.demand = _ := reportMonitored_demand j b v
  have blocks : acceptReport j b v = _ := acceptReport_blocks j b v
  have new : reportedDemand j s.roster.junctions[j].state b v =
      { sIn, sOut, inVolume := b.inVolume, outVolume := b.outVolume } := by
    simp only [reportedDemand, smooth_eq, hv, answered_frame]
    rfl
  have vroster : v.roster = s.roster := by simp [hv]
  have vdemand : v.demand = s.demand := by simp [hv]
  have vgate : v.gate = s.gate := by simp [hv]
  have vpriority : v.priority = s.priority := by simp [hv]
  have vstore : v.store = s.store := by simp [hv]
  have count : junctionCount v = n := by simp [hv, n, junctionCount]
  simp only [vroster, vdemand, vstore, count, new] at demand
  set u := settle (acceptReport j b v) with hu
  have udemand : u.demand = x.demand := by simp only [hu, settle_frame]; rw [blocks]
  have ugate : u.gate = x.gate := by simp only [hu, settle_frame]; rw [blocks]
  have told : Spoke v u _ _ := (acceptReport_spoke j b v).then_eq (by simp [hu]) (by simp [hu]) (by simp [hu])
  have steers : lineSteers u.line = lineSteers v.line := by simp [hu, acceptReport_steers]
  have entries : unfollowedEntries j b v = dropped := by rw [unfollowedEntries, vpriority]
  have replies : lineReplyCount v.line = queuedWithReply s t := answered_lineReplyCount s t .ok []
  have after_eq : afterReport s.roster.junctions[j].state = after := by
    simp only [after, old]
    cases s.roster.junctions[j].state <;> rfl
  rw [entries, replies, vgate, vroster, vstore, after_eq, ← hx, ← ugate] at told
  obtain ⟨replied, reset, -, noticed⟩ := replied_then_told (answered_replied s t .ok []) told.told
  have links : ∀ k : LinkIndex, _ := reportMonitored_links j b v
  simp only [vroster, vdemand, vgate, vstore, count, new] at links
  refine ⟨u, accepted, ?_, fun k => ?_, ?_, ?_, ?_, ?_, ?_⟩
  · apply State.ext
    case roster =>
      simp only [hu, settle_frame]
      rw [blocks]
      simp only [vroster, heardEntry, after_eq]
      rfl
    case demand => rw [udemand, demand]
    case priority =>
      simp only [hu, settle_frame]
      rw [blocks, vpriority]
    case causeRaised => simpa [AtRest, hu] using rest.symm
    case gate => rfl
    case engine => rfl
    case line => rfl
    case centre => rfl
    case handler => rfl
    all_goals simp [hu, hv]
  · rw [udemand, ugate]
    exact links k
  · rw [udemand, ugate]
    refine settle_causeIf ?_ (by simp [hv])
    rw [blocks]
    refine (reportMonitored_causeRaised j b v).trans ?_
    rw [vroster, vdemand, vgate, show v.causeRaised = false by simpa [hv, AtRest] using rest]
    simp only [Bool.false_eq_true, false_or, or_assoc]
    rfl
  · exact replied
  · exact (answered_replied s t .ok []).2.2.1.trans (told.lineQuiet steers)
  · exact reset
  · exact noticed

end Sys2Proof.Machine
end

section
/-! The period end: the misses, the losses, and what each loss does in the other blocks (R97, R120, R141,
R145). -/

namespace Sys2Proof.Machine

open Sys2Proof

/-! ### The roster entry after a period end (R141) -/

/-- The roster entry of junction j after a period end. -/
def endedEntry (s : State) (j : Junction) : RosterEntry :=
  let r := s.roster.junctions[j]
  { r with
    state := stateAfter s.store.geometry.head.downgradeLimit r.state (missesAfter r)
    misses := missesAfter r, reports := 0 }

/-- A period end finds junction j LOST for the first time, as a test. -/
def findsLost (s : State) (j : Junction) : Bool :=
  decide (j.val < junctionCount s) && decide ((endedEntry s j).state = .lost) &&
    decide (s.roster.junctions[j].state ≠ .lost)

theorem stateAfter_eq_lost (limit misses : Nat) (state : RosterState) :
    stateAfter limit state misses = .lost ↔ state = .lost ∨ (state ≠ .absent ∧ limit ≤ misses) := by
  cases state with
  | linked =>
    by_cases reached : limit ≤ misses
    · simp [stateAfter, reached]
    · by_cases twice : 2 ≤ misses <;> simp [stateAfter, reached, twice]
  | _ => simp [stateAfter]

/-- Below the downgrade limit a LINKED junction with two misses is DEGRADED, and every other state stays. -/
theorem stateAfter_below {limit misses : Nat} {state : RosterState}
    (below : state ≠ .lost → state ≠ .absent → misses < limit) :
    stateAfter limit state misses = if state = .linked ∧ 2 ≤ misses then .degraded else state := by
  cases state with
  | lost => simp [stateAfter]
  | absent => simp [stateAfter]
  | _ => simp [stateAfter, Nat.not_le.2 (below (by simp) (by simp))]

theorem findsLost_iff (s : State) (j : Junction) : findsLost s j = true ↔ EntersLost s j := by
  simp only [findsLost, EntersLost, endedEntry, stateAfter_eq_lost, missesAfter, Bool.and_eq_true,
    decide_eq_true_eq]
  tauto

/-! ### One loss in the other blocks (R145) -/

/-- The entries listed for junction j. -/
def listedFor (s : State) (j : Junction) : List PriorityEntry :=
  s.priority.list.filter fun e => decide (e.junction = j)

/-- The value is the target under the condition, and stays otherwise. -/
def Becomes {α : Type} (c : Prop) (old new target : α) : Prop :=
  (c → new = target) ∧ (¬ c → new = old)

section
variable {α : Type} {c c' : Prop} {a b d target : α}

theorem Becomes.trans (h : Becomes c a b target) (h' : Becomes c' b d target) :
    Becomes (c ∨ c') a d target := by
  refine ⟨fun either => ?_, fun neither => ?_⟩
  · by_cases second : c'
    · exact h'.1 second
    · rw [h'.2 second, h.1 (either.resolve_right second)]
  · rw [h'.2 (mt .inr neither), h.2 (mt .inl neither)]

theorem Becomes.congr (h : Becomes c a b target) (same : c ↔ c') : Becomes c' a b target :=
  ⟨fun here => h.1 (same.2 here), fun elsewhere => h.2 (mt same.1 elsewhere)⟩

theorem Becomes.never (h : ¬ c) : Becomes c a a target := ⟨fun here => absurd here h, fun _ => rfl⟩

end

theorem changeAt_becomes {α : Type} {n : Nat} (v : Vector α n) (k : Option (Fin n)) (target : α) (i : Fin n) :
    Becomes (k = some i) v[i] (changeAt v k fun _ => target)[i] target := by
  rw [changeAt_getElem]
  exact ⟨fun here => if_pos here, fun elsewhere => if_neg elsewhere⟩

section
variable (j : Junction) (before : RosterState) (misses : Nat) (s : State)

/-- What a loss makes of every block. -/
theorem enterLost_blocks : enterLost j before misses s = { s with
    demand := (demandLost j s).demand, gate := (gateLost j s).gate
    priority := { s.priority with list := s.priority.list.filter fun e => decide (e.junction ≠ j) }
    line := (enterLost j before misses s).line, centre := (enterLost j before misses s).centre
    causeRaised := true } := by
  apply State.ext
  case priority =>
    simp [enterLost, dropEntries_priority_key _ _ fun e x (same : e.junction = x.junction) _ =>
      congrArg (fun i => decide (i = j)) same]
  case gate => simp [enterLost, gateLost_gate, junctionCount]
  case causeRaised => simp [enterLost, raiseCause]
  all_goals simp [enterLost]

theorem enterLost_steers : lineSteers (enterLost j before misses s).line = lineSteers s.line := by
  simp [enterLost, junctionNotice]

/-- What a loss tells: its link-directions, its drops, its JUNCTION_STATE (R145; log 9). -/
theorem enterLost_spoke :
    let u := gateLost j s
    Spoke s (enterLost j before misses s)
      (outcomesPlaced (.dropped .lost) (listedFor s j) (lineReplyCount s.line))
      (((allLinks.filter fun k => decide (k.val = j.val)).flatMap fun k =>
          spillNotice .inbound k s.gate.inbound[k] u.gate.inbound[k] j.val .lost) ++
        ((allLinks.filter fun k => decide (k.val + 1 = j.val)).flatMap fun k =>
          spillNotice .outbound k s.gate.outbound[k] u.gate.outbound[k] j.val .lost) ++
        outcomeNotices (.dropped .lost) (listedFor s j) (lineReplyCount s.line) ++
        [.junctionState j s.store.geometry.entries[j].address before .lost misses]) := by
  intro u
  set v := demandLost j s with hv
  have gate : (gateLost j v).gate = u.gate := by simp [u, hv, gateLost_gate, junctionCount]
  have cleared := gateLost_spoke j v
  dsimp only at cleared
  rw [gate, show v.gate = s.gate by simp [hv]] at cleared
  have dropped := dropEntries_spoke (fun e => decide (e.junction = j)) .lost (gateLost j v)
  rw [show (gateLost j v).priority = s.priority by simp [hv],
    show (gateLost j v).line = s.line by simp [hv]] at dropped
  have told := ((cleared.after_eq (s := s) (by simp [hv]) (by simp [hv]) (by simp [hv])).trans dropped).trans
    ((queueNotice_spoke (.junctionState j s.store.geometry.entries[j].address before .lost misses)
      (raiseCause (dropEntries (fun e => decide (e.junction = j)) .lost (gateLost j v)))).after_eq
        (by simp) (by simp) (by simp))
  have eq : enterLost j before misses s = queueNotice
      (.junctionState j s.store.geometry.entries[j].address before .lost misses)
      (raiseCause (dropEntries (fun e => decide (e.junction = j)) .lost (gateLost j v))) := by
    simp [enterLost, junctionNotice, hv]
  rw [eq]
  simpa [listedFor] using told

end

/-! ### The notices of several losses (log 9) -/

/-- Both gates agree in the link-directions that junction j reports. -/
def ReportedAgree (j : Junction) (g g' : Gate) : Prop :=
  (∀ k : LinkIndex, k.val = j.val → g'.inbound[k] = g.inbound[k]) ∧
  ∀ k : LinkIndex, k.val + 1 = j.val → g'.outbound[k] = g.outbound[k]

theorem lossNotices_congr {s s' u u' : State} {j : Junction} (queued : Nat)
    (before : ReportedAgree j s.gate s'.gate) (after : ReportedAgree j u.gate u'.gate)
    (listed : listedFor s' j = listedFor s j) (store : s'.store = s.store)
    (entry : s'.roster.junctions[j] = s.roster.junctions[j]) :
    lossNotices s' u' j queued = lossNotices s u j queued := by
  unfold listedFor at listed
  have inbound : ∀ k ∈ allLinks.filter fun k : LinkIndex => decide (k.val = j.val),
      spillNotice .inbound k s'.gate.inbound[k] u'.gate.inbound[k] j.val .lost =
        spillNotice .inbound k s.gate.inbound[k] u.gate.inbound[k] j.val .lost := fun k hk => by
    have here : k.val = j.val := by simpa using (List.mem_filter.1 hk).2
    rw [before.1 k here, after.1 k here]
  have outbound : ∀ k ∈ allLinks.filter fun k : LinkIndex => decide (k.val + 1 = j.val),
      spillNotice .outbound k s'.gate.outbound[k] u'.gate.outbound[k] j.val .lost =
        spillNotice .outbound k s.gate.outbound[k] u.gate.outbound[k] j.val .lost := fun k hk => by
    have here : k.val + 1 = j.val := by simpa using (List.mem_filter.1 hk).2
    rw [before.2 k here, after.2 k here]
  unfold lossNotices
  rw [List.flatMap_congr inbound, List.flatMap_congr outbound, listed, store, entry]

theorem lossesNotices_congr {s s' u u' : State} {js : List Junction} (queued : Nat)
    (before : ∀ j ∈ js, ReportedAgree j s.gate s'.gate) (after : ∀ j ∈ js, ReportedAgree j u.gate u'.gate)
    (listed : ∀ j ∈ js, listedFor s' j = listedFor s j) (store : s'.store = s.store)
    (entry : ∀ j ∈ js, s'.roster.junctions[j] = s.roster.junctions[j]) :
    lossesNotices s' u' js queued = lossesNotices s u js queued := by
  induction js generalizing queued with
  | nil => rfl
  | cons x xs ih =>
    have inner := fun q => ih (queued := q) (fun j hj => before j (List.mem_cons_of_mem _ hj))
      (fun j hj => after j (List.mem_cons_of_mem _ hj)) (fun j hj => listed j (List.mem_cons_of_mem _ hj))
      fun j hj => entry j (List.mem_cons_of_mem _ hj)
    have first := listed x List.mem_cons_self
    have head := lossNotices_congr queued (before x List.mem_cons_self) (after x List.mem_cons_self) first
      store (entry x List.mem_cons_self)
    unfold listedFor at first
    rw [lossesNotices, lossesNotices, head, first, inner]

/-- Frames placed in two lots are placed in order, as far as there are places (R154). -/
theorem outcomesPlaced_append (o : CallOutcome) (a b : List PriorityEntry) (queued : Nat) :
    outcomesPlaced o (a ++ b) queued = outcomesPlaced o a queued ++
      outcomesPlaced o b (queued + (outcomesPlaced o a queued).length) := by
  simp only [outcomesPlaced, List.filterMap_append, List.take_append, List.length_take]
  congr 2
  omega

/-! ### The period end, junction after junction (R141) -/

/-- What a period end for the junctions of a list makes of the state. -/
structure PeriodEnded (s u : State) (js : List Junction) : Prop where
  frame : u = { s with
    roster := { s.roster with junctions := u.roster.junctions }
    demand := { s.demand with levelIn := u.demand.levelIn, levelOut := u.demand.levelOut }
    gate := u.gate, priority := { s.priority with list := u.priority.list }
    line := u.line, centre := u.centre, causeRaised := u.causeRaised }
  roster : ∀ i : Junction, Becomes (i ∈ js) s.roster.junctions[i] u.roster.junctions[i] (endedEntry s i)
  far : ∀ k : LinkIndex,
    Becomes (k.succ ∈ js ∧ EntersLost s k.succ) s.demand.levelIn[k] u.demand.levelIn[k] 0 ∧
    Becomes (k.succ ∈ js ∧ EntersLost s k.succ) s.gate.outbound[k] u.gate.outbound[k] .clear
  near : ∀ k : LinkIndex,
    Becomes (k.val + 1 < junctionCount s ∧ k.castSucc ∈ js ∧ EntersLost s k.castSucc)
      s.demand.levelOut[k] u.demand.levelOut[k] 0 ∧
    Becomes (k.val + 1 < junctionCount s ∧ k.castSucc ∈ js ∧ EntersLost s k.castSucc)
      s.gate.inbound[k] u.gate.inbound[k] .clear
  list : u.priority.list =
    s.priority.list.filter fun e => !(decide (e.junction ∈ js) && findsLost s e.junction)
  cause : u.causeRaised = true ↔ s.causeRaised = true ∨ ∃ j ∈ js, EntersLost s j
  spoke : Spoke s u
    (outcomesPlaced (.dropped .lost) ((js.filter (findsLost s)).flatMap (listedFor s))
      (lineReplyCount s.line))
    (lossesNotices s u (js.filter (findsLost s)) (lineReplyCount s.line))
  steers : lineSteers u.line = lineSteers s.line
  quiet : (∀ j ∈ js, ¬ EntersLost s j) → u.line = s.line ∧ u.centre = s.centre

theorem PeriodEnded.nil (s : State) : PeriodEnded s s [] where
  frame := rfl
  roster _ := .never (by simp)
  far _ := ⟨.never (by simp), .never (by simp)⟩
  near _ := ⟨.never (by simp), .never (by simp)⟩
  list := by simp
  cause := by simp
  spoke := by simpa [outcomesPlaced, lossesNotices] using Spoke.of_eq (s := s) (u := s) rfl rfl rfl
  steers := rfl
  quiet _ := ⟨rfl, rfl⟩

theorem inboundBefore_iff_succ {n : Nat} {j : Junction} {k : LinkIndex} (live : j.val < n) :
    inboundBefore n j = some k ↔ k.succ = j := by
  rw [inboundBefore_eq_some_iff, Fin.ext_iff, Fin.val_succ]
  simp [live]

theorem outboundAfter_iff_castSucc {n : Nat} {j : Junction} {k : LinkIndex} :
    outboundAfter n j = some k ↔ k.val + 1 < n ∧ k.castSucc = j := by
  rw [outboundAfter_eq_some_iff, Fin.ext_iff, Fin.val_castSucc]
  omega

theorem periodEndFor_eq (j : Junction) (s : State) : periodEndFor j s =
    if (endedEntry s j).state = .lost ∧ s.roster.junctions[j].state ≠ .lost then
      enterLost j s.roster.junctions[j].state (missesAfter s.roster.junctions[j])
        (setRosterEntry s j (endedEntry s j))
    else setRosterEntry s j (endedEntry s j) := rfl

/-- The roster with the entry of junction j after the period end. -/
theorem setRosterEntry_ended (s : State) (j i : Junction) : Becomes (i ∈ [j]) s.roster.junctions[i]
    (setRosterEntry s j (endedEntry s j)).roster.junctions[i] (endedEntry s i) := by
  refine ⟨fun here => ?_, fun elsewhere => ?_⟩
  · rw [List.mem_singleton.1 here]
    simp [setRosterEntry]
  · exact Vector.getElem_set_ne j.isLt i.isLt fun same => elsewhere (by simp [Fin.ext_iff, same])

section
variable {s : State} {j : Junction}

/-- A junction that is found LOST: its roster entry, then what the loss does. -/
theorem enterLost_ended (lost : EntersLost s j) : PeriodEnded s
    (enterLost j s.roster.junctions[j].state (missesAfter s.roster.junctions[j])
      (setRosterEntry s j (endedEntry s j))) [j] := by
  set v := setRosterEntry s j (endedEntry s j) with hv
  set u := enterLost j s.roster.junctions[j].state (missesAfter s.roster.junctions[j]) v with hu
  have blocks : u = _ := enterLost_blocks _ _ _ v
  have demand : u.demand = _ := (congrArg State.demand blocks).trans (demandLost_demand j v)
  have gate : u.gate = (gateLost j v).gate := by rw [blocks]
  have gate_eq : u.gate = _ := gate.trans (gateLost_gate j v)
  have loses : findsLost s j = true := (findsLost_iff s j).2 lost
  have far : ∀ k : LinkIndex, inboundBefore (junctionCount s) j = some k ↔
      k.succ ∈ [j] ∧ EntersLost s k.succ := fun k => by
    rw [inboundBefore_iff_succ lost.1, List.mem_singleton]
    exact ⟨fun same => ⟨same, same ▸ lost⟩, And.left⟩
  have near : ∀ k : LinkIndex, outboundAfter (junctionCount s) j = some k ↔
      k.val + 1 < junctionCount s ∧ k.castSucc ∈ [j] ∧ EntersLost s k.castSucc := fun k => by
    rw [outboundAfter_iff_castSucc, List.mem_singleton]
    exact and_congr_right fun _ => ⟨fun same => ⟨same, same ▸ lost⟩, And.left⟩
  exact {
    frame := by
      apply State.ext
      case demand => rw [demand]; rfl
      case gate => rfl
      case line => rfl
      case centre => rfl
      case causeRaised => rfl
      all_goals rw [blocks]
      all_goals simp [hv, setRosterEntry]
    roster := fun i => by rw [blocks]; exact setRosterEntry_ended s j i
    far := fun k => by
      rw [demand, gate_eq]
      exact ⟨(changeAt_becomes _ _ _ k).congr (far k), (changeAt_becomes _ _ _ k).congr (far k)⟩
    near := fun k => by
      rw [demand, gate_eq]
      exact ⟨(changeAt_becomes _ _ _ k).congr (near k), (changeAt_becomes _ _ _ k).congr (near k)⟩
    list := by
      rw [blocks]
      refine List.filter_congr fun e _ => ?_
      by_cases same : e.junction = j <;> simp [same, loses]
    cause := by
      rw [blocks]
      simp [lost]
    spoke := by
      have told : Spoke v u _ _ := enterLost_spoke j _ _ v
      rw [← gate] at told
      have told : Spoke s u (outcomesPlaced (.dropped .lost) (listedFor s j) (lineReplyCount s.line))
        (lossNotices s u j (lineReplyCount s.line)) := told.after_eq rfl rfl rfl
      simpa [loses, lossesNotices] using told
    steers := enterLost_steers j _ _ v
    quiet := fun none => absurd lost (none j (by simp)) }

/-- A junction that is not found LOST has its roster entry written. -/
theorem setRosterEntry_periodEnded (kept : ¬ EntersLost s j) :
    PeriodEnded s (setRosterEntry s j (endedEntry s j)) [j] := by
  have stays : findsLost s j = false := by rwa [← Bool.not_eq_true, findsLost_iff]
  have only : ∀ i, i ∈ [j] → ¬ EntersLost s i := fun i hi => by rwa [List.mem_singleton.1 hi]
  exact {
    frame := by apply State.ext <;> simp [setRosterEntry]
    roster := setRosterEntry_ended s j
    far := fun k => ⟨.never fun h => only _ h.1 h.2, .never fun h => only _ h.1 h.2⟩
    near := fun k => ⟨.never fun h => only _ h.2.1 h.2.2, .never fun h => only _ h.2.1 h.2.2⟩
    list := by
      symm
      refine List.filter_eq_self.2 fun e _ => ?_
      by_cases same : e.junction = j
      · simp [same, stays]
      · simp [same]
    cause := by simp [setRosterEntry, kept]
    spoke := by
      simpa [stays, outcomesPlaced, lossesNotices] using
        Spoke.of_eq (s := s) (u := setRosterEntry s j (endedEntry s j)) rfl rfl rfl
    steers := rfl
    quiet := fun _ => ⟨rfl, rfl⟩ }

/-- The period end for one junction of 0..N-1. -/
theorem periodEndFor_ended (live : j.val < junctionCount s) : PeriodEnded s (periodEndFor j s) [j] := by
  have lost_iff : ((endedEntry s j).state = .lost ∧ s.roster.junctions[j].state ≠ .lost) ↔
      EntersLost s j := by
    rw [← findsLost_iff, findsLost]
    simp [live]
  rw [periodEndFor_eq]
  by_cases lost : EntersLost s j
  · rw [if_pos (lost_iff.2 lost)]
    exact enterLost_ended lost
  · rw [if_neg (mt lost_iff.1 lost)]
    exact setRosterEntry_periodEnded lost

end

section
variable {s v u : State} {js : List Junction}

/-- A period end leaves the link-directions that other junctions report. -/
theorem PeriodEnded.reportedAgree (h : PeriodEnded s u js) {i : Junction} (other : i ∉ js) :
    ReportedAgree i s.gate u.gate := by
  refine ⟨fun k same => (h.near k).2.2 ?_, fun k same => (h.far k).2.2 ?_⟩
  · rintro ⟨-, mem, -⟩
    exact other ((Fin.ext same : k.castSucc = i) ▸ mem)
  · rintro ⟨mem, -⟩
    exact other ((Fin.ext same : k.succ = i) ▸ mem)

/-- A period end leaves the roster entries of other junctions. -/
theorem PeriodEnded.entry (h : PeriodEnded s u js) {i : Junction} (other : i ∉ js) :
    u.roster.junctions[i] = s.roster.junctions[i] := (h.roster i).2 other

theorem PeriodEnded.store (h : PeriodEnded s u js) : u.store = s.store := by rw [h.frame]

/-- A period end leaves the entries listed for other junctions. -/
theorem PeriodEnded.listed (h : PeriodEnded s u js) {i : Junction} (other : i ∉ js) :
    listedFor u i = listedFor s i := by
  rw [listedFor, h.list, List.filter_filter]
  refine List.filter_congr fun e _ => ?_
  by_cases same : e.junction = i <;> simp [same, other]

theorem PeriodEnded.ended (h : PeriodEnded s u js) {i : Junction} (other : i ∉ js) :
    endedEntry u i = endedEntry s i := by
  simp only [endedEntry, h.entry other, h.store]

theorem PeriodEnded.findsLost_eq (h : PeriodEnded s u js) {i : Junction} (other : i ∉ js) :
    findsLost u i = findsLost s i := by
  unfold findsLost junctionCount
  rw [h.ended other, h.entry other, h.store]

theorem PeriodEnded.entersLost_iff (h : PeriodEnded s u js) {i : Junction} (other : i ∉ js) :
    EntersLost u i ↔ EntersLost s i := by
  rw [← findsLost_iff, ← findsLost_iff, h.findsLost_eq other]

/-- The frames and notices of the first junction's loss and of the losses behind it. -/
theorem PeriodEnded.spoke_cons {x : Junction} {xs : List Junction} (first : PeriodEnded s v [x])
    (rest : PeriodEnded v u xs) (fresh : x ∉ xs) :
    Spoke s u
      (outcomesPlaced (.dropped .lost) (((x :: xs).filter (findsLost s)).flatMap (listedFor s))
        (lineReplyCount s.line))
      (lossesNotices s u ((x :: xs).filter (findsLost s)) (lineReplyCount s.line)) := by
  have apart : ∀ i ∈ xs, i ∉ [x] := fun i hi same => fresh (List.mem_singleton.1 same ▸ hi)
  have losses : xs.filter (findsLost v) = xs.filter (findsLost s) :=
    List.filter_congr fun i hi => first.findsLost_eq (apart i hi)
  set lost := xs.filter (findsLost s) with hlost
  have mem : ∀ i ∈ lost, i ∈ xs := fun i hi => List.mem_of_mem_filter hi
  have listed : lost.flatMap (listedFor v) = lost.flatMap (listedFor s) :=
    List.flatMap_congr fun i hi => first.listed (apart i (mem i hi))
  have notices : ∀ queued, lossesNotices v u lost queued = lossesNotices s u lost queued := fun queued =>
    lossesNotices_congr queued (fun i hi => first.reportedAgree (apart i (mem i hi)))
      (fun _ _ => ⟨fun _ _ => rfl, fun _ _ => rfl⟩) (fun i hi => first.listed (apart i (mem i hi)))
      first.store fun i hi => first.entry (apart i (mem i hi))
  have count : lineReplyCount v.line = lineReplyCount s.line +
      (outcomesPlaced (.dropped .lost) (([x].filter (findsLost s)).flatMap (listedFor s))
        (lineReplyCount s.line)).length := by
    rw [lineReplyCount_eq, first.spoke.replies, List.length_append, ← lineReplyCount_eq]
  have told := first.spoke.trans rest.spoke
  rw [losses, listed, notices, count] at told
  rw [← List.singleton_append, List.filter_append, List.flatMap_append, outcomesPlaced_append]
  cases loses : findsLost s x with
  | false => simpa [loses, lossesNotices, outcomesPlaced] using told
  | true =>
    have own : lossNotices s u x (lineReplyCount s.line) = lossNotices s v x (lineReplyCount s.line) :=
      lossNotices_congr _ ⟨fun _ _ => rfl, fun _ _ => rfl⟩ (rest.reportedAgree fresh) rfl rfl rfl
    simpa [loses, lossesNotices, own, listedFor] using told

/-- A period end for one junction and then for others. -/
theorem PeriodEnded.cons {x : Junction} {xs : List Junction} (first : PeriodEnded s v [x])
    (rest : PeriodEnded v u xs) (fresh : x ∉ xs) : PeriodEnded s u (x :: xs) := by
  have apart : ∀ i ∈ xs, i ∉ [x] := fun i hi same => fresh (List.mem_singleton.1 same ▸ hi)
  have lost : ∀ i, (i ∈ xs ∧ EntersLost v i) ↔ (i ∈ xs ∧ EntersLost s i) := fun i =>
    and_congr_right fun hi => first.entersLost_iff (apart i hi)
  have count : junctionCount v = junctionCount s := congrArg (·.geometry.head.n) first.store
  have either : ∀ i, (i ∈ [x] ∧ EntersLost s i ∨ i ∈ xs ∧ EntersLost v i) ↔
      i ∈ x :: xs ∧ EntersLost s i := fun i => by
    rw [lost, ← or_and_right]
    simp
  have near : ∀ k : LinkIndex, (k.val + 1 < junctionCount s ∧ k.castSucc ∈ [x] ∧ EntersLost s k.castSucc ∨
      k.val + 1 < junctionCount v ∧ k.castSucc ∈ xs ∧ EntersLost v k.castSucc) ↔
      k.val + 1 < junctionCount s ∧ k.castSucc ∈ x :: xs ∧ EntersLost s k.castSucc := fun k => by
    rw [count, ← and_or_left, either]
  exact {
    frame := by rw [rest.frame, first.frame]
    roster := fun i => by
      have after : Becomes (i ∈ xs) v.roster.junctions[i] u.roster.junctions[i] (endedEntry s i) :=
        ⟨fun hi => by rw [(rest.roster i).1 hi, first.ended (apart i hi)], (rest.roster i).2⟩
      exact ((first.roster i).trans after).congr (by simp)
    far := fun k => ⟨((first.far k).1.trans (rest.far k).1).congr (either k.succ),
      ((first.far k).2.trans (rest.far k).2).congr (either k.succ)⟩
    near := fun k => ⟨((first.near k).1.trans (rest.near k).1).congr (near k),
      ((first.near k).2.trans (rest.near k).2).congr (near k)⟩
    list := by
      rw [rest.list, first.list, List.filter_filter]
      refine List.filter_congr fun e _ => ?_
      by_cases same : e.junction = x
      · simp [same, fresh]
      · by_cases hi : e.junction ∈ xs
        · simp [same, hi, first.findsLost_eq (apart _ hi)]
        · simp [same, hi]
    cause := by
      rw [rest.cause, first.cause, or_assoc, ← exists_or]
      exact or_congr_right (exists_congr either)
    spoke := first.spoke_cons rest fresh
    steers := rest.steers.trans first.steers
    quiet := fun none => by
      obtain ⟨line, centre⟩ := first.quiet fun i hi => none i (List.mem_cons.2 (.inl (by simpa using hi)))
      obtain ⟨line', centre'⟩ := rest.quiet fun i hi =>
        mt (first.entersLost_iff (apart i hi)).1 (none i (List.mem_cons_of_mem _ hi))
      exact ⟨line'.trans line, centre'.trans centre⟩ }

end

/-- The period end for junctions of 0..N-1, each once. -/
theorem periodEnds_ended {js : List Junction} (distinct : js.Nodup) {s : State}
    (live : ∀ j ∈ js, j.val < junctionCount s) : PeriodEnded s (forJunctions periodEndFor js s) js := by
  induction js generalizing s with
  | nil => exact .nil s
  | cons x xs ih =>
    obtain ⟨fresh, distinct⟩ := List.nodup_cons.1 distinct
    have first := periodEndFor_ended (live x List.mem_cons_self)
    refine first.cons (ih distinct fun j hj => ?_) fresh
    rw [junctionCount, first.store]
    exact live j (List.mem_cons_of_mem _ hj)

/-! ### The event (R141) -/

/-- The state in which a period end goes through the junctions. -/
def periodTaken (s : State) : State := s.setDue { s.due with periodEnd := false }

theorem exec_periodEnd {s : State} (running : s.inReset = false) (due : s.due.periodEnd = true) :
    exec .periodEnd s =
      .next (settle (forJunctions periodEndFor (liveJunctions s) (periodTaken s))) :=
  congrArg Host.Outcome.next ((whenRunning_running periodEnd running).trans (if_pos due))

/-- The entry of a junction that a period end does not find LOST. -/
theorem endedEntry_kept {s : State} {j : Junction} (live : j.val < junctionCount s)
    (kept : ¬ EntersLost s j) : endedEntry s j =
      { s.roster.junctions[j] with
        state := if s.roster.junctions[j].state = .linked ∧ 2 ≤ missesAfter s.roster.junctions[j]
          then .degraded else s.roster.junctions[j].state
        misses := missesAfter s.roster.junctions[j], reports := 0 } := by
  rw [endedEntry, stateAfter_below]
  intro standing present
  by_contra late
  exact kept ⟨live, standing, present, Nat.not_lt.1 late⟩

theorem endedEntry_lost {s : State} {j : Junction} (lost : EntersLost s j) : endedEntry s j =
    { s.roster.junctions[j] with
      state := .lost, misses := missesAfter s.roster.junctions[j], reports := 0 } := by
  obtain ⟨-, -, reached⟩ := lost
  have lost : stateAfter s.store.geometry.head.downgradeLimit s.roster.junctions[j].state
      (missesAfter s.roster.junctions[j]) = .lost := (stateAfter_eq_lost _ _ _).2 (.inr reached)
  rw [endedEntry, lost]

section
variable {s u : State} {js : List Junction}

/-- The links after a period end that has gone through every junction it finds LOST. -/
theorem PeriodEnded.links (h : PeriodEnded s u js) (all : ∀ j, EntersLost s j → j ∈ js) (k : LinkIndex) :
    (k.val + 1 < junctionCount s → EntersLost s k.succ → u.demand.levelIn[k] = 0 ∧
      u.gate.outbound[k] = { isSet := false, run := 0 }) ∧
    (junctionCount s ≤ k.val + 1 ∨ ¬ EntersLost s k.succ →
      u.demand.levelIn[k] = s.demand.levelIn[k] ∧ u.gate.outbound[k] = s.gate.outbound[k]) ∧
    (k.val + 1 < junctionCount s → EntersLost s k.castSucc → u.demand.levelOut[k] = 0 ∧
      u.gate.inbound[k] = { isSet := false, run := 0 }) ∧
    (junctionCount s ≤ k.val + 1 ∨ ¬ EntersLost s k.castSucc →
      u.demand.levelOut[k] = s.demand.levelOut[k] ∧ u.gate.inbound[k] = s.gate.inbound[k]) := by
  obtain ⟨levelIn, outbound⟩ := h.far k
  obtain ⟨levelOut, inbound⟩ := h.near k
  refine ⟨fun _ lost => ?_, fun stays => ?_, fun below lost => ?_, fun stays => ?_⟩
  · have here := And.intro (all _ lost) lost
    exact ⟨levelIn.1 here, outbound.1 here⟩
  · have kept : ¬(k.succ ∈ js ∧ EntersLost s k.succ) := fun h =>
      stays.elim (Nat.not_le.2 h.2.1) (· h.2)
    exact ⟨levelIn.2 kept, outbound.2 kept⟩
  · have here := And.intro below (And.intro (all _ lost) lost)
    exact ⟨levelOut.1 here, inbound.1 here⟩
  · have kept : ¬(k.val + 1 < junctionCount s ∧ k.castSucc ∈ js ∧ EntersLost s k.castSucc) := fun h =>
      stays.elim (Nat.not_le.2 h.1) (· h.2.2)
    exact ⟨levelOut.2 kept, inbound.2 kept⟩

/-- The entries that stay in the list are those of junctions that are not found LOST. -/
theorem PeriodEnded.mem_list (h : PeriodEnded s u js) (all : ∀ j, EntersLost s j → j ∈ js)
    (e : PriorityEntry) :
    e ∈ u.priority.list ↔ e ∈ s.priority.list ∧ ¬ EntersLost s e.junction := by
  have drops : (decide (e.junction ∈ js) && findsLost s e.junction) = true ↔ EntersLost s e.junction := by
    rw [Bool.and_eq_true, decide_eq_true_iff, findsLost_iff]
    exact and_iff_right_of_imp (all _)
  rw [h.list, List.mem_filter, Bool.not_eq_true', ← Bool.not_eq_true, drops]

end

/-- Settles O43: the period end junction by junction, then the arrival of its causes. -/
theorem periodEndsForEveryJunction : Obligations.PeriodEndsForEveryJunction := by
  intro s running rest due n misses
  have done := exec_periodEnd running due
  set v := periodTaken s with hv
  set w := forJunctions periodEndFor (liveJunctions s) v with hw
  have ended : PeriodEnded v w (liveJunctions s) :=
    periodEnds_ended (liveJunctions_nodup s) fun j hj => (mem_liveJunctions s j).1 hj
  set u := settle w with hu
  have urest : u = { w with engine := u.engine, causeRaised := false } := by
    apply State.ext <;> simp [hu]
  have frame : u = { s with
      due := { s.due with periodEnd := false }
      roster := { s.roster with junctions := u.roster.junctions }
      demand := { s.demand with levelIn := u.demand.levelIn, levelOut := u.demand.levelOut }
      gate := u.gate, priority := { s.priority with list := u.priority.list }
      engine := u.engine, line := u.line, centre := u.centre, causeRaised := false } := by
    rw [urest, ended.frame]
    rfl
  have roster : u.roster = w.roster := by simp [hu]
  have demand : u.demand = w.demand := by simp [hu]
  have gate : u.gate = w.gate := by simp [hu]
  have list : u.priority = w.priority := by simp [hu]
  have line : u.line = w.line := by simp [hu]
  have centre : u.centre = w.centre := by simp [hu]
  have mem : ∀ j : Junction, j.val < n → j ∈ liveJunctions s := fun j => (mem_liveJunctions s j).2
  have all : ∀ j, EntersLost s j → j ∈ liveJunctions s := fun j lost => mem j lost.1
  have live : ∀ j, j ∈ liveJunctions s ∧ EntersLost s j ↔ EntersLost s j := fun j =>
    and_iff_right_of_imp (all j)
  have told : Spoke s u _ _ := (ended.spoke.then_eq (v := u) line centre (by simp [hu])).after_eq rfl rfl rfl
  refine ⟨u, done, ?_, fun j beyond => ?_, fun j below => ⟨fun lost => ?_, fun kept linked twice => ?_,
    fun kept stays => ?_⟩, fun k => ?_, fun e => ?_, ?_, ?_, told.lineQuiet ?_, told.nothingServed,
    fun none => ?_, fun lost sorted isLost => ?_⟩
  · exact frame.trans (by rw [show s.causeRaised = false from rest])
  · rw [roster]
    exact (ended.roster j).2 fun isLive => absurd ((mem_liveJunctions s j).1 isLive) (Nat.not_lt.2 beyond)
  · rw [roster, (ended.roster j).1 (mem j below)]
    exact endedEntry_lost lost
  · rw [roster, (ended.roster j).1 (mem j below)]
    refine (endedEntry_kept below kept).trans ?_
    rw [if_pos ⟨linked, twice⟩]
    rfl
  · rw [roster, (ended.roster j).1 (mem j below)]
    refine (endedEntry_kept below kept).trans ?_
    rw [if_neg fun both => stays.elim (· both.1) (Nat.not_lt.2 both.2)]
    rfl
  · rw [demand, gate]
    exact ended.links all k
  · rw [list]
    exact ended.mem_list all e
  · rw [list, ended.list]
    exact List.filter_sublist
  · refine settle_causeIf ?_ (by rw [ended.frame]; rfl)
    rw [ended.cause, show v.causeRaised = false from rest]
    simp only [Bool.false_eq_true, false_or]
    exact exists_congr live
  · rw [line]
    exact ended.steers
  · rw [line, centre]
    exact ended.quiet fun j _ => none j
  · have same : lost = (liveJunctions s).filter (findsLost v) := by
      refine sorted.eq_of_mem_iff ((liveJunctions_sorted s).filter _) fun j => ?_
      rw [isLost, List.mem_filter, findsLost_iff]
      exact (live j).symm
    rw [same]
    refine ⟨told.replies, told.centreErrors, ?_⟩
    have notices := told.notices
    rw [← lossesNotices_congr (s := v) (s' := s) (u := w) (u' := u) _
      (fun _ _ => ⟨fun _ _ => rfl, fun _ _ => rfl⟩)
      (fun _ _ => by rw [gate]; exact ⟨fun _ _ => rfl, fun _ _ => rfl⟩) (fun _ _ => rfl) rfl
      fun _ _ => rfl] at notices
    exact notices

end Sys2Proof.Machine
end

section
/-! The priority list under every command: entries leave it, and PRIORITY_CALL alone adds one (R123 to R126,
R135, R136). -/

namespace Sys2Proof.Machine

open Sys2Proof

/-! ### Entries leave the list -/

/-- No entry was added between `s` and `u`, the clock stands, and outside RUN the list is empty if it was so
before or RUN was left. -/
structure EntriesLeave (s u : State) : Prop where
  list    : u.priority.list.Sublist s.priority.list
  clock   : u.priority.clock = s.priority.clock
  outside : u.timebase.mode ≠ .run → s.timebase.mode ≠ .run ∨ u.priority.list = []

section
variable {s u v : State}

theorem EntriesLeave.of_eq (mode : u.timebase.mode = s.timebase.mode) (priority : u.priority = s.priority) :
    EntriesLeave s u :=
  ⟨by rw [priority], by rw [priority], fun out => .inl (mode ▸ out)⟩

theorem EntriesLeave.refl (s : State) : EntriesLeave s s := .of_eq rfl rfl

theorem EntriesLeave.trans (h : EntriesLeave s v) (h' : EntriesLeave v u) : EntriesLeave s u := by
  refine ⟨h'.list.trans h.list, h'.clock.trans h.clock, fun out => ?_⟩
  rcases h'.outside out with out' | gone
  · refine (h.outside out').imp_right fun empty => ?_
    exact List.sublist_nil.1 (empty ▸ h'.list)
  · exact .inr gone

theorem EntriesLeave.then_eq (h : EntriesLeave s v) (mode : u.timebase.mode = v.timebase.mode)
    (priority : u.priority = v.priority) : EntriesLeave s u := h.trans (.of_eq mode priority)

theorem EntriesLeave.bounded (h : EntriesLeave s u) (bounded : PriorityBounded s) : PriorityBounded u := by
  obtain ⟨room, keys, outside, clock⟩ := bounded
  refine ⟨h.list.length_le.trans room, keys.sublist (h.list.map _), fun out => ?_, h.clock ▸ clock⟩
  rcases h.outside out with out' | gone
  · exact List.sublist_nil.1 (outside out' ▸ h.list)
  · exact gone

/-! ### Entries that leave, and evaluations (R127, R131, R134, R136) -/

theorem removeEntry_leave (e : PriorityEntry) (o : CallOutcome) (s : State) :
    EntriesLeave s (removeEntry e o s) :=
  ⟨by simp, by simp, fun out => .inl (by simpa using out)⟩

theorem dropEntries_leave (picks : PriorityEntry → Bool) (r : DropReason) (s : State) :
    EntriesLeave s (dropEntries picks r s) := by
  refine ⟨?_, ?_, fun out => .inl (by simpa using out)⟩ <;> simp [dropEntries, removeAll_priority]

theorem serveEntries_leave (j : Junction) (es : List PriorityEntry) (s : State) :
    EntriesLeave s (serveEntries j es s) := by
  induction es generalizing s with
  | nil => exact .refl s
  | cons e rest ih =>
    unfold serveEntries
    dsimp only
    split
    · exact (removeEntry_leave e _ s).trans (ih _)
    · exact (EntriesLeave.of_eq (by simp) (by simp)).trans (removeEntry_leave e _ (queueSteer ..))
    · exact (EntriesLeave.of_eq (by simp) (by simp)).trans (removeEntry_leave e _ (queueSteer ..))
    · exact ih s

theorem evaluate_leave (j : Junction) (s : State) : EntriesLeave s (evaluate j s) := by
  unfold evaluate
  split
  · exact serveEntries_leave j _ s
  · exact .refl s

theorem closeWindow_leave (j : Junction) (s : State) : EntriesLeave s (closeWindow j s) :=
  (EntriesLeave.of_eq (by simp) (by simp)).trans (evaluate_leave j (setCycle ..))

theorem cutExtension_leave (j : Junction) (e : Extension) (s : State) :
    EntriesLeave s (cutExtension j e s) := by
  unfold cutExtension
  dsimp only
  split
  · exact (EntriesLeave.of_eq (by simp) (by simp)).trans (closeWindow_leave j (queueNotice ..))
  · exact .of_eq (by simp) (by simp)

/-! ### Reports and period ends (R141, R143, R145) -/

theorem acceptReport_leave (j : Junction) (b : ReportBody) (s : State) :
    EntriesLeave s (acceptReport j b s) := by
  refine ⟨?_, ?_, fun out => .inl (by simpa using out)⟩ <;> rw [acceptReport_blocks]
  dsimp only
  split
  · exact .refl _
  · exact List.filter_sublist

theorem periodEndFor_leave (j : Junction) (s : State) : EntriesLeave s (periodEndFor j s) := by
  unfold periodEndFor enterLost
  dsimp only
  split
  · generalize hv : gateLost j _ = v
    have cleared : EntriesLeave s v := hv ▸ .of_eq (by simp) (by simp)
    have dropped := cleared.trans (dropEntries_leave (fun e => decide (e.junction = j)) .lost v)
    exact dropped.then_eq (by simp [junctionNotice]) (by simp [junctionNotice])
  · exact .of_eq (by simp) (by simp)

theorem periodEnds_leave (js : List Junction) (s : State) :
    EntriesLeave s (forJunctions periodEndFor js s) := by
  induction js generalizing s with
  | nil => exact .refl s
  | cons j rest ih => exact (periodEndFor_leave j s).trans (ih _)

/-! ### The Timebase (R53 to R59, R173) -/

theorem stopCoordination_leave (r : DropReason) (s : State) : EntriesLeave s (stopCoordination r s) :=
  ⟨by simp, by simp, fun _ => .inr (by simp)⟩

theorem holdEffects_leave (s : State) : EntriesLeave s (holdEffects s) :=
  (stopCoordination_leave .hold s).then_eq (by simp [holdEffects]) (by simp [holdEffects])

theorem engineReset_leave (s : State) : EntriesLeave s (engineReset s) := by
  have stopped : EntriesLeave s (stopCoordination .engineReset (emptyBeat s)) :=
    (EntriesLeave.of_eq (by simp) (by simp)).trans (stopCoordination_leave .engineReset (emptyBeat s))
  have reset : EntriesLeave s (resetCoordination s) := by
    unfold resetCoordination
    dsimp only
    split
    · exact stopped
    · exact stopped.then_eq (by simp) (by simp)
  exact reset.then_eq (by simp [engineReset]) (by simp [engineReset])

/-- A release from HOLD finds the list as HOLD left it (R53). -/
theorem enterEntering_leave {p : Nat} (held : s.timebase.mode = .hold) :
    EntriesLeave s (enterEntering p s) := by
  refine ⟨?_, ?_, fun _ => .inl ?_⟩ <;> simp [held]

theorem enterRun_mode (s : State) : (enterRun s).timebase.mode = .run := by
  unfold enterRun
  dsimp only
  generalize hv : queueNotice _ _ = v
  have entered : v.timebase.mode = .run := by simp [← hv]
  obtain ⟨p, timebase, -⟩ := checkPinAtEntry_timebase v
  simp [timebase, entered]

theorem publish_leave (x : Snapshot) (s : State) : EntriesLeave s (publish x s) := by
  refine ⟨by simp, by simp, fun out => .inl ?_⟩
  unfold publish at out
  dsimp only at out
  split at out
  · exact absurd (enterRun_mode _) out
  · revert out
    split <;> exact id

theorem computationDone_leave (s : State) : EntriesLeave s (computationDone s) := by
  unfold computationDone
  split
  · exact .refl s
  · next x _ =>
    have published : EntriesLeave s (if discards s x then s else publish x s) := by
      split
      · exact .refl s
      · exact publish_leave x s
    show EntriesLeave s (nextComputation (discards s x) _)
    rw [nextComputation_frame]
    exact published.then_eq (by simp) (by simp)

theorem boundary_leave (s : State) : EntriesLeave s (boundary s) := by
  unfold boundary switchPlan
  dsimp only
  repeat' split
  · exact .refl s
  · generalize hv : setLiveBias _ _ = v
    have switched : EntriesLeave s v := hv ▸ .of_eq (by simp) (by simp)
    generalize hp : (fun e : PriorityEntry => !permits _ e.junction e.direction) = picks
    exact (switched.trans (dropEntries_leave picks .plan v)).then_eq (by simp) (by simp)
  · exact .refl s

theorem applyPlanPin_mode (p : Nat) (s : State) :
    (applyPlanPin p s).timebase.mode = s.timebase.mode := by
  unfold applyPlanPin
  repeat' split
  all_goals simp [setPendingPlan_timebase]

theorem matchingStep_mode (s : State) : (matchingStep s).timebase.mode = s.timebase.mode := by
  unfold matchingStep
  repeat' split
  all_goals simp [setPendingPlan_timebase]

/-! ### Requests (R126, R133, R165) -/

theorem answered_leave (s : State) (t : Taken) (c : ReplyCode) (r : List Byte) :
    EntriesLeave s (answered s t c r) := .of_eq (by simp) (by simp)

theorem serve_leave {α : Type} {k : RequestKind} {parse : List Byte → Option α}
    {answer : Taken → α → State → Answer} {effect : Taken → α → State → State}
    (effects : ∀ t body v, EntriesLeave v (effect t body v)) (s : State) :
    EntriesLeave s (serve k parse answer effect s) := by
  obtain e | ⟨t, _, _, ⟨c, _, e⟩ | ⟨body, r, _, _, _, _, e⟩⟩ :=
    serve_cases (k := k) (parse := parse) (answer := answer) (effect := effect) (s := s) <;> rw [e]
  · exact .refl s
  · exact answered_leave s t c []
  · exact ((answered_leave s t .ok r).trans (effects t body _)).then_eq (by simp) (by simp)

theorem serveUnknown_leave (s : State) : EntriesLeave s (serveUnknown s) := by
  unfold serveUnknown
  repeat' split
  · exact .refl s
  · exact answered_leave s _ _ _
  · exact .refl s

section
variable (t : Taken) (v : State)

theorem effectReport_leave (b : ReportBody) : EntriesLeave v (effectReport t b v) := by
  unfold effectReport
  split
  · exact acceptReport_leave _ b v
  · exact .refl v

theorem effectCancel_leave (b : CancelBody) : EntriesLeave v (effectCancel t b v) := by
  unfold effectCancel
  repeat' split
  · exact removeEntry_leave _ _ v
  · exact cutExtension_leave _ _ v
  · exact .refl v
  · exact .refl v

theorem effectStatus_leave (b : StatusBody) : EntriesLeave v (effectStatus t b v) := by
  unfold effectStatus
  split <;> exact .of_eq rfl rfl

theorem retainPlan_leave (p : Nat) (record : Fin 24 → RetentionRecord) (store : Store) :
    EntriesLeave v (retainPlan p record (v.setStore store)) := by
  unfold retainPlan
  split <;> exact .of_eq rfl rfl

theorem effectPlanCheck_leave (p : Nat) : EntriesLeave v (effectPlanCheck t p v) := by
  unfold effectPlanCheck
  dsimp only
  split
  · exact .of_eq rfl rfl
  · exact retainPlan_leave v _ _ _

theorem effectGeometryHeadWrite_leave (h : GeometryHead) :
    EntriesLeave v (effectGeometryHeadWrite t h v) :=
  .of_eq (by simp [effectGeometryHeadWrite, startRetention])
    (by simp [effectGeometryHeadWrite, startRetention])

theorem effectGeometryCheck_leave (b : Unit) : EntriesLeave v (effectGeometryCheck t b v) := by
  unfold effectGeometryCheck
  dsimp only
  split <;> exact .of_eq rfl rfl

theorem effectSelectionWrite_leave (b : SelectionWrite) : EntriesLeave v (effectSelectionWrite t b v) := by
  unfold effectSelectionWrite
  split <;> exact .of_eq rfl rfl

theorem effectPinPlan_leave (p : Nat) : EntriesLeave v (effectPinPlan t p v) := by
  unfold effectPinPlan
  split <;> exact .of_eq (by simp [applyPlanPin_mode]) (by simp)

theorem effectPinBias_leave (n : Nat) : EntriesLeave v (effectPinBias t n v) := by
  unfold effectPinBias
  split <;> exact .of_eq (by simp) (by simp)

end

/-- RELEASE_HOLD is accepted in HOLD alone (R53). -/
theorem serveRelease_leave (s : State) :
    EntriesLeave s (serve .releaseHold parseOne answerRelease effectRelease s) := by
  obtain e | ⟨t, _, _, ⟨c, _, e⟩ | ⟨p, r, _, _, accepted, _, e⟩⟩ := serve_cases (k := .releaseHold)
    (parse := parseOne) (answer := answerRelease) (effect := effectRelease) (s := s) <;> rw [e]
  · exact .refl s
  · exact answered_leave s t c []
  · have held : s.timebase.mode = .hold := by
      by_contra running
      cases plan : isPlan p <;> simp [answerRelease, firstRefusal_cons, running, plan] at accepted
    have entered : EntriesLeave (answered s t .ok r) (effectRelease t p (answered s t .ok r)) :=
      enterEntering_leave (by simpa using held)
    exact ((answered_leave s t .ok r).trans entered).then_eq (by simp) (by simp)

/-! ### Events -/

theorem whenRunning_leave {act : State → State} (h : EntriesLeave s (act s)) :
    EntriesLeave s (whenRunning act s) := by
  unfold whenRunning
  split
  · exact .refl s
  · exact h

section
variable (s : State)

theorem cycleBoundary_leave : EntriesLeave s (cycleBoundary s) := by
  unfold cycleBoundary
  split
  · have taken : EntriesLeave s (s.setDue { s.due with boundary := false }) := .of_eq rfl rfl
    exact (taken.trans (boundary_leave _)).then_eq (by simp) (by simp)
  · exact .refl s

theorem localZero_leave (j : Junction) : EntriesLeave s (localZero j s) := by
  unfold localZero
  split
  · dsimp only
    generalize hv : plainSteer j _ = v
    have placed : EntriesLeave s v := hv ▸ .of_eq (by simp) (by simp)
    exact (placed.trans (evaluate_leave j v)).then_eq (by simp) (by simp)
  · exact .refl s

theorem windowClose_leave (j : Junction) : EntriesLeave s (windowClose j s) := by
  unfold windowClose
  split
  · exact (closeWindow_leave j s).then_eq (by simp) (by simp)
  · exact .refl s

theorem beatNow_leave : EntriesLeave s (beatNow s) := by
  unfold beatNow
  split <;> exact .of_eq (by simp) (by simp)

theorem selectorEvaluation_leave : EntriesLeave s (selectorEvaluation s) := by
  unfold selectorEvaluation
  split <;> exact .of_eq (by simp [matchingStep_mode]) (by simp)

theorem pinLapse_leave : EntriesLeave s (pinLapse s) := by
  unfold pinLapse
  split <;> exact .of_eq (by simp) (by simp)

theorem periodEnd_leave : EntriesLeave s (periodEnd s) := by
  unfold periodEnd
  dsimp only
  split
  · generalize hv : s.setDue _ = v
    have taken : EntriesLeave s v := hv ▸ .of_eq rfl rfl
    exact (taken.trans (periodEnds_leave (liveJunctions v) v)).then_eq (by simp) (by simp)
  · exact .refl s

theorem expireEntry_leave (j : Junction) (tag : Nat) : EntriesLeave s (expireEntry j tag s) := by
  unfold expireEntry
  repeat' split
  · exact removeEntry_leave _ _ s
  · exact .refl s
  · exact .refl s

theorem completeRetention_leave : EntriesLeave s (completeRetention s) := by
  unfold completeRetention
  split <;> exact .of_eq rfl rfl

theorem lineBusy_leave : EntriesLeave s (lineBusy s) := by
  unfold lineBusy
  split <;> exact .of_eq rfl rfl

theorem lineFree_leave (chars : List Byte) : EntriesLeave s (lineFree chars s) := by
  unfold lineFree gapFault
  dsimp only
  repeat' split
  all_goals exact .of_eq (by simp) (by simp)

theorem lineFault_leave : EntriesLeave s (lineFault s) := by
  unfold lineFault
  split <;> exact .of_eq (by simp) (by simp)

theorem frameComplete_leave : EntriesLeave s (frameComplete s) := by
  unfold frameComplete
  split <;> exact .of_eq rfl rfl

theorem arbitrationLoss_leave : EntriesLeave s (arbitrationLoss s) := by
  unfold arbitrationLoss
  dsimp only
  repeat' split
  all_goals exact .of_eq rfl rfl

theorem lineReceive_leave (chars : List Byte) : EntriesLeave s (lineReceive chars s) := by
  unfold lineReceive placeLineFrame
  repeat' split
  all_goals exact .of_eq rfl rfl

theorem centreReceive_leave (chars : List Byte) : EntriesLeave s (centreReceive chars s) := by
  unfold centreReceive placeCentreFrame
  repeat' split
  all_goals exact .of_eq rfl rfl

theorem lineDiscard_leave (f : RxFault) (chars : List Byte) : EntriesLeave s (lineDiscard f chars s) := by
  unfold lineDiscard
  split <;> exact .of_eq rfl rfl

theorem centreDiscard_leave (f : RxFault) (chars : List Byte) :
    EntriesLeave s (centreDiscard f chars s) := by
  unfold centreDiscard
  split <;> exact .of_eq rfl rfl

theorem centreComplete_leave : EntriesLeave s (centreComplete s) := by
  unfold centreComplete
  split <;> exact .of_eq (by simp) (by simp)

end

end

/-- The commands under which entries only leave the list: all but a call, the passing of a ds and the
restarts. -/
theorem exec_leave {c : Instr} {s u : State} (h : exec c s = .next u)
    (call : c ≠ .priorityCall) (tick : c ≠ .decisecondTick) (hard : ∀ pins, c ≠ .hardwareReset pins)
    (soft : ∀ pins, c ≠ .resetUnitTakesEffect pins) : EntriesLeave s u := by
  cases c with
  | priorityCall => exact absurd rfl call
  | decisecondTick => exact absurd rfl tick
  | hardwareReset pins => exact absurd rfl (hard pins)
  | resetUnitTakesEffect pins => exact absurd rfl (soft pins)
  | report =>
    obtain rfl := next_inj h
    exact serve_leave (fun t b v => effectReport_leave t v b) s
  | priorityCancel =>
    obtain rfl := next_inj h
    exact serve_leave (fun t b v => effectCancel_leave t v b) s
  | readStatus =>
    obtain rfl := next_inj h
    exact serve_leave (fun t b v => effectStatus_leave t v b) s
  | readJunction | readBand | readPlanHead | readPlanGroup | readGeometryHead | readGeometryGroup
  | readSelection =>
    obtain rfl := next_inj h
    exact serve_leave (effect := noEffect) (fun _ _ v => .refl v) s
  | writeGeometryGroup =>
    obtain rfl := next_inj h
    exact serve_leave (effect := effectGeometryGroupWrite) (fun _ _ _ => .of_eq rfl rfl) s
  | resetUnit =>
    obtain rfl := next_inj h
    exact serve_leave (effect := effectResetUnit) (fun _ _ _ => .of_eq rfl rfl) s
  | writePlanHead | writePlanGroup | erasePlan =>
    obtain rfl := next_inj h
    exact serve_leave (fun _ _ v => retainPlan_leave v _ _ _) s
  | checkPlan =>
    obtain rfl := next_inj h
    exact serve_leave (fun t p v => effectPlanCheck_leave t v p) s
  | writeGeometryHead =>
    obtain rfl := next_inj h
    exact serve_leave (fun t b v => effectGeometryHeadWrite_leave t v b) s
  | checkGeometry =>
    obtain rfl := next_inj h
    exact serve_leave (fun t b v => effectGeometryCheck_leave t v b) s
  | writeSelection =>
    obtain rfl := next_inj h
    exact serve_leave (fun t b v => effectSelectionWrite_leave t v b) s
  | pinPlan =>
    obtain rfl := next_inj h
    exact serve_leave (fun t p v => effectPinPlan_leave t v p) s
  | pinBias =>
    obtain rfl := next_inj h
    exact serve_leave (fun t n v => effectPinBias_leave t v n) s
  | releaseHold =>
    obtain rfl := next_inj h
    exact serveRelease_leave s
  | enterHold =>
    obtain rfl := next_inj h
    exact serve_leave (fun _ _ v => holdEffects_leave v) s
  | resetEngine =>
    obtain rfl := next_inj h
    exact serve_leave (fun _ _ v => engineReset_leave v) s
  | unknownKind =>
    obtain rfl := next_inj h
    exact serveUnknown_leave s
  | resetNAssert =>
    obtain rfl := next_inj h
    exact .of_eq rfl rfl
  | cycleBoundary =>
    obtain rfl := next_inj h
    exact whenRunning_leave (cycleBoundary_leave s)
  | localZero j =>
    obtain ⟨i, rfl⟩ := next_of_junction (act := localZero) h
    exact whenRunning_leave (localZero_leave s i)
  | windowClose j =>
    obtain ⟨i, rfl⟩ := next_of_junction (act := windowClose) h
    exact whenRunning_leave (windowClose_leave s i)
  | beatDue =>
    obtain rfl := next_inj h
    exact whenRunning_leave (beatNow_leave s)
  | evaluation =>
    obtain rfl := next_inj h
    exact whenRunning_leave (selectorEvaluation_leave s)
  | pinLapse =>
    obtain rfl := next_inj h
    exact whenRunning_leave (pinLapse_leave s)
  | periodEnd =>
    obtain rfl := next_inj h
    exact whenRunning_leave (periodEnd_leave s)
  | priorityExpiry j tag =>
    obtain ⟨i, rfl⟩ := next_of_junction (act := fun j => expireEntry j tag) h
    exact whenRunning_leave (expireEntry_leave s i tag)
  | retentionComplete =>
    obtain rfl := next_inj h
    exact whenRunning_leave (completeRetention_leave s)
  | computationComplete =>
    obtain rfl := next_inj h
    exact whenRunning_leave (computationDone_leave s)
  | lineBusy =>
    obtain rfl := next_inj h
    exact whenRunning_leave (lineBusy_leave s)
  | lineFree chars =>
    obtain rfl := next_inj h
    exact whenRunning_leave (lineFree_leave s chars)
  | lineFault =>
    obtain rfl := next_inj h
    exact whenRunning_leave (lineFault_leave s)
  | frameComplete =>
    obtain rfl := next_inj h
    exact whenRunning_leave (frameComplete_leave s)
  | arbitrationLoss =>
    obtain rfl := next_inj h
    exact whenRunning_leave (arbitrationLoss_leave s)
  | lineFrameReceived chars =>
    obtain rfl := next_inj h
    exact whenRunning_leave (lineReceive_leave s chars)
  | lineFrameDiscarded f chars =>
    obtain rfl := next_inj h
    exact whenRunning_leave (lineDiscard_leave s f chars)
  | centreFrameReceived chars =>
    obtain rfl := next_inj h
    exact whenRunning_leave (centreReceive_leave s chars)
  | centreFrameDiscarded f chars =>
    obtain rfl := next_inj h
    exact whenRunning_leave (centreDiscard_leave s f chars)
  | centreFrameComplete =>
    obtain rfl := next_inj h
    exact whenRunning_leave (centreComplete_leave s)

/-! ### The call, the clock and the restarts (R123, R125, R126, R170) -/

theorem hasKey_iff {j : Junction} {tag : Nat} {e : PriorityEntry} :
    hasKey j tag e = true ↔ e.junction = j ∧ e.tag = tag := by simp [hasKey]

theorem findEntry_isNone (s : State) (j : Junction) (tag : Nat) :
    (findEntry s j tag).isNone = !s.priority.list.any (hasKey j tag) := by
  rw [← Option.not_isSome, findEntry, List.isSome_find?]

/-- A refreshed entry keeps its key in its place, and a new one brings its key last (R126). -/
theorem listCall_keys (e : PriorityEntry) (list : List PriorityEntry) :
    (listCall e list).map (fun x => (x.junction, x.tag)) =
      list.map (fun x => (x.junction, x.tag)) ++
        if list.any (hasKey e.junction e.tag) then [] else [(e.junction, e.tag)] := by
  unfold listCall
  split
  · rw [List.map_map, List.append_nil]
    refine List.map_congr_left fun x _ => ?_
    by_cases key : hasKey e.junction e.tag x = true
    · simp [key, hasKey_iff.1 key]
    · simp [key]
  · simp

/-- A call listed while its key stands or a place is free keeps the list bounded and its keys distinct. -/
theorem listCall_bounded {e : PriorityEntry} {list : List PriorityEntry}
    (room : list.any (hasKey e.junction e.tag) = true ∨ list.length < Config.priorityPlaces)
    (length : list.length ≤ Config.priorityPlaces)
    (keys : (list.map fun x => (x.junction, x.tag)).Nodup) :
    (listCall e list).length ≤ Config.priorityPlaces ∧
    ((listCall e list).map fun x => (x.junction, x.tag)).Nodup := by
  have counted := congrArg List.length (listCall_keys e list)
  rw [listCall_keys]
  cases listed : list.any (hasKey e.junction e.tag) with
  | true =>
    simp only [listed, if_true, List.append_nil, List.length_map] at counted ⊢
    exact ⟨counted ▸ length, keys⟩
  | false =>
    simp only [listed, Bool.false_eq_true, if_false, false_or] at counted room ⊢
    refine ⟨by simp at counted; omega, List.nodup_append.2 ⟨keys, List.nodup_singleton _, ?_⟩⟩
    rintro key held _ new rfl
    obtain ⟨x, hx, rfl⟩ := List.mem_map.1 held
    have same := List.mem_singleton.1 new
    rw [List.any_eq_false] at listed
    exact listed x hx (hasKey_iff.2 (Prod.mk.inj same))

/-- An ordered list of refusals that yields OK holds none that applies (R125). -/
theorem passed_of_firstRefusal {l : List (Bool × ReplyCode)} (ok : firstRefusal l = .ok)
    (codes : ∀ x ∈ l, x.2 ≠ .ok) : ∀ x ∈ l, x.1 = false := by
  induction l with
  | nil => simp
  | cons x rest ih =>
    obtain ⟨code, codes⟩ := List.forall_mem_cons.1 codes
    rw [firstRefusal_cons] at ok
    split at ok
    · exact absurd ok code
    · next passes => exact List.forall_mem_cons.2 ⟨by simpa using passes, ih ok codes⟩

theorem answerCall_code {b : CallBody} {j : Junction} (t : Taken) (s : State) (named : b.junction = j.val) :
    (answerCall t b s).code =
      if b.tag = 0 ∨ junctionCount s ≤ b.junction then .badArgument
      else firstRefusal (callRefusals b j s) := by
  unfold answerCall
  split
  · rfl
  · simp [named]

theorem answerCall_result (t : Taken) (b : CallBody) (s : State) : (answerCall t b s).result = [] := by
  unfold answerCall
  repeat' split
  all_goals rfl

/-- An accepted call names a junction, comes in RUN, and finds its key listed or a place free (R125). -/
theorem answerCall_accepts {t : Taken} {b : CallBody} {s : State} (ok : (answerCall t b s).code = .ok) :
    ∃ j : Junction, b.junction = j.val ∧ s.timebase.mode = .run ∧
      (s.priority.list.any (hasKey j b.tag) = true ∨ s.priority.list.length < Config.priorityPlaces) := by
  by_cases below : b.junction < 12
  · refine ⟨⟨b.junction, below⟩, rfl, ?_⟩
    rw [answerCall_code t s (j := ⟨b.junction, below⟩) rfl] at ok
    split at ok
    · cases ok
    · have none := passed_of_firstRefusal ok (by simp [callRefusals])
      simp only [callRefusals, List.forall_mem_cons, findEntry_isNone] at none
      obtain ⟨running, -, -, room, -⟩ := none
      exact ⟨by simpa using running, by simpa [imp_iff_not_or] using room⟩
  · unfold answerCall at ok
    split at ok
    · cases ok
    · rw [junctionAt_none (Nat.le_of_not_lt below)] at ok
      cases ok

theorem call_bounded {s : State} (bounded : PriorityBounded s) :
    PriorityBounded (serve .priorityCall parseCall answerCall effectCall s) := by
  obtain e | ⟨t, _, _, ⟨c, _, e⟩ | ⟨b, r, _, _, accepted, _, e⟩⟩ := serve_cases (k := .priorityCall)
    (parse := parseCall) (answer := answerCall) (effect := effectCall) (s := s) <;> rw [e]
  · exact bounded
  · exact (answered_leave s t c []).bounded bounded
  · obtain ⟨j, named, running, room⟩ := answerCall_accepts accepted
    simp only [takeFrame_frame] at running room
    have evaluated : PriorityBounded (effectCall t b (answered s t .ok r)) := by
      unfold effectCall
      rw [named, junctionAt_val]
      refine (evaluate_leave j _).bounded ?_
      obtain ⟨length, keys, -, clock⟩ := bounded
      obtain ⟨length', keys'⟩ := listCall_bounded (e := callEntry t b j (answered s t .ok r)) room length keys
      exact ⟨by simpa using length', by simpa using keys', fun out => absurd running (by simpa using out),
        by simpa using clock⟩
    exact (EntriesLeave.of_eq (by simp) (by simp)).bounded evaluated

theorem tick_bounded {s : State} (bounded : PriorityBounded s) : PriorityBounded (tick s) := by
  have clocks : PriorityBounded (tickClocks s) := by
    obtain ⟨length, keys, outside, -⟩ := bounded
    exact ⟨length, keys, outside, Nat.mod_lt _ (by decide)⟩
  unfold tick
  repeat' split
  · exact bounded
  · exact (EntriesLeave.of_eq (by simp [tickRun]) (by simp [tickRun])).bounded clocks
  · exact clocks

/-- A restart empties the list, whatever the start decision (R170, R171). -/
theorem startDecision_restart_bounded (s : State) : PriorityBounded (startDecision (restart s)) := by
  have initial : (startDecision (restart s)).priority = .initial := by
    unfold startDecision
    dsimp only
    split <;> simp [restart]
  simp [PriorityBounded, initial, Priority.initial, Config.clockModulus]

theorem resetUnitNow_bounded {s : State} (pins : Straps) (bounded : PriorityBounded s) :
    PriorityBounded (resetUnitNow pins s) := by
  unfold resetUnitNow hardwareReset
  repeat' split
  · exact bounded
  · exact startDecision_restart_bounded _
  · exact startDecision_restart_bounded s

theorem whenRunning_bounded {act : State → State} {s : State} (bounded : PriorityBounded s)
    (h : PriorityBounded (act s)) : PriorityBounded (whenRunning act s) := by
  unfold whenRunning
  split
  · exact bounded
  · exact h

/-- Settles O49: entries only leave the list but at a call, and the clock and the restarts keep the bounds. -/
theorem priorityListKept : Obligations.PriorityListKept := by
  intro c s u h bounded
  cases c with
  | priorityCall =>
    obtain rfl := next_inj h
    exact call_bounded bounded
  | decisecondTick =>
    obtain rfl := next_inj h
    exact whenRunning_bounded bounded (tick_bounded bounded)
  | hardwareReset pins =>
    obtain rfl := next_inj h
    exact startDecision_restart_bounded (s.setStraps pins)
  | resetUnitTakesEffect pins =>
    obtain rfl := next_inj h
    exact whenRunning_bounded bounded (resetUnitNow_bounded pins bounded)
  | _ => exact (exec_leave h (by simp) (by simp) (by simp) (by simp)).bounded bounded

end Sys2Proof.Machine
end

section
/-! Evaluations of a junction: the decision for an entry, and the entries that an evaluation grants, in list
order (R127 to R131, R154). -/

namespace Sys2Proof.Machine

open Sys2Proof

/-! ### The steers that wait while other frames are queued (R154, R155) -/

/-- No steer waits that could have started (R155). -/
def SteersHeld (l : Line) : Prop := l.inFlight ≠ none ∨ l.state ≠ .free ∨ l.steers = []

/-- The port holds the same steers, and where none could have started they wait on. -/
structure SteersStand (s u : State) : Prop where
  same  : lineSteers u.line = lineSteers s.line
  held  : SteersHeld s.line → SteersHeld u.line
  queue : SteersHeld s.line → u.line.steers = s.line.steers

section
variable {s u v : State}

theorem SteersStand.of_eq (flight : u.line.inFlight = s.line.inFlight) (state : u.line.state = s.line.state)
    (steers : u.line.steers = s.line.steers) : SteersStand s u := by
  refine ⟨?_, fun held => ?_, fun _ => steers⟩
  · simp only [lineSteers, flightSteers, flight, steers]
  · simpa only [SteersHeld, flight, state, steers] using held

theorem SteersStand.trans (h : SteersStand s v) (h' : SteersStand v u) : SteersStand s u :=
  ⟨h'.same.trans h.same, fun held => h'.held (h.held held),
    fun held => (h'.queue (h.held held)).trans (h.queue held)⟩

/-- The steer in flight is the same while the waiting ones are. -/
theorem SteersStand.flight (h : SteersStand s u) (held : SteersHeld s.line) :
    flightSteers u.line = flightSteers s.line := by
  have same := h.same
  rw [lineSteers, lineSteers, h.queue held] at same
  exact List.append_cancel_right same

theorem startLine_steersStand (s : State) : SteersStand s (startLine s) := by
  by_cases stays : s.line.inFlight ≠ none ∨ s.line.state ≠ .free
  · rw [startLine_stays stays]
    exact .of_eq rfl rfl rfl
  · have empty : SteersHeld s.line → s.line.steers = [] := by
      unfold SteersHeld
      tauto
    have kept : SteersHeld s.line → (startLine s).line.steers = [] := by
      intro held
      obtain e | ⟨_, b, _, e⟩ | ⟨_, l, rfl | rfl, ⟨w, rest, hw, e⟩ | ⟨r, rest, _, e⟩⟩ :=
        startLine_cases s
      · rw [e]
        exact empty held
      · exact e ▸ empty held
      · simp [empty held] at hw
      · exact e ▸ empty held
      · simp [empty held] at hw
      · exact e ▸ empty held
    exact ⟨(startLine_holds s).2.1, fun held => .inr (.inr (kept held)),
      fun held => (kept held).trans (empty held).symm⟩

theorem queueLineReply_steersStand (item : ReplyItem) (s : State) :
    SteersStand s (queueLineReply item s) := by
  unfold queueLineReply
  refine SteersStand.trans ?_ (startLine_steersStand _)
  exact .of_eq rfl rfl rfl

theorem sendOutcome_steersStand (e : PriorityEntry) (o : CallOutcome) (s : State) :
    SteersStand s (sendOutcome e o s) := by
  unfold sendOutcome
  repeat' split
  · exact .of_eq rfl rfl rfl
  · exact queueLineReply_steersStand _ s
  · exact .of_eq rfl rfl rfl

theorem removeEntry_steersStand (e : PriorityEntry) (o : CallOutcome) (s : State) :
    SteersStand s (removeEntry e o s) := by
  unfold removeEntry
  dsimp only
  generalize hv : s.setPriority _ = v
  have removed : SteersStand s v := hv ▸ .of_eq rfl rfl rfl
  exact (removed.trans (sendOutcome_steersStand e o v)).trans (.of_eq (by simp) (by simp) (by simp))

theorem answered_steersStand (s : State) (t : Taken) (c : ReplyCode) (r : List Byte) :
    SteersStand s (answered s t c r) := by
  unfold answered
  cases t.port with
  | line =>
    have taken : SteersStand s (takeFrame .line s) := .of_eq rfl rfl rfl
    exact taken.trans (queueLineReply_steersStand _ _)
  | centre =>
    have line : (queueReply .centre t.frame c r (takeFrame .centre s)).line = s.line := by
      simp [queueReply, takeFrame]
    exact .of_eq (by rw [line]) (by rw [line]) (by rw [line])

/-! ### One steer is placed (R154) -/

/-- What comes before a steer may queue other frames. -/
theorem SteerQueued.after {st : Steer} (h : SteerQueued v u st) (before : SteersStand s v) :
    SteerQueued s u st :=
  ⟨h.1, fun held => by rw [h.2 (before.held held), before.flight held, before.queue held]⟩

/-- What follows a steer may move it to the line. -/
theorem SteerQueued.then_same {st : Steer} (h : SteerQueued s v st)
    (same : lineSteers u.line = lineSteers v.line) : SteerQueued s u st := by
  rwa [SteerQueued, same]

theorem queueSteer_queued (j : Junction) (a : PriorityAction) (n : Nat) (s : State) :
    SteerQueued s (queueSteer j a n s) (steerOf s j a n) :=
  ⟨queueSteer_mem j a n s, fun _ => queueSteer_steers j a n s⟩

/-- A steer carries the record of its junction alone (R73). -/
theorem steerOf_congr (j : Junction) (a : PriorityAction) (n : Nat) (cycles : u.cycles = s.cycles) :
    steerOf u j a n = steerOf s j a n := by simp [steerOf, cycles]

end

/-! ### The decision for one entry (R128) -/

/-- The least of three amounts, cut off at 0, is the least of the amounts cut off at 0 (R128). -/
theorem earlyAmount_eq (h : PlanHead) (c : LocalCycle) (r : Nat) :
    earlyAmount h c r = (min (h.eMax : Int) (min ((c.lcur : Int) - c.lc - r)
      ((c.lcur : Int) - max (c.lc + 1) (c.windowEnd + h.sMin)))).toNat := by
  unfold earlyAmount
  omega

section
variable (h : PlanHead) (c : LocalCycle) (r : Nat)

theorem decideEntry_open (opened : c.windowOpen = true) :
    decideEntry h c r =
      if c.full = true ∨ r ≤ c.windowEnd - c.lc then .serve
      else if 0 < h.xMax ∧ r ≤ c.windowEnd - c.lc + h.xMax then
        .extend (min h.xMax (r - (c.windowEnd - c.lc) + 20))
      else .wait := if_pos opened

theorem decideEntry_closed (closed : c.windowOpen = false) :
    decideEntry h c r =
      if 0 < c.gEff ∧ r < c.lcur - c.lc ∧ 1 ≤ earlyAmount h c r then .early (earlyAmount h c r)
      else .wait := if_neg (by simp [closed])

end

/-! ### The grants of a list of entries (R127) -/

/-- The grants among entries taken in order under their decisions (R127). -/
def grantsOf (decision : PriorityEntry → Decision) (es : List PriorityEntry) :
    List (PriorityEntry × CallOutcome) :=
  (es.takeWhile (fun e => (decision e).goesOn) ++ (es.dropWhile fun e => (decision e).goesOn).take 1).filterMap
    fun e => ((decision e).granted).map fun o => (e, o)

theorem grantsMade_eq (s : State) (j : Junction) : grantsMade s j =
    grantsOf (decisionFor s j) (s.priority.list.filter fun e => decide (e.junction = j)) := rfl

theorem grantsOf_cons (decision : PriorityEntry → Decision) (e : PriorityEntry) (es : List PriorityEntry) :
    grantsOf decision (e :: es) =
      ((decision e).granted.map fun o => (e, o)).toList ++
        if (decision e).goesOn then grantsOf decision es else [] := by
  cases d : decision e <;> simp [grantsOf, d, Decision.goesOn, Decision.granted]

theorem mem_of_mem_grantsOf {decision : PriorityEntry → Decision} {es : List PriorityEntry}
    {g : PriorityEntry × CallOutcome} (h : g ∈ grantsOf decision es) : g.1 ∈ es := by
  obtain ⟨e, taken, granted⟩ := List.mem_filterMap.1 h
  obtain ⟨o, -, rfl⟩ := Option.map_eq_some_iff.1 granted
  rcases List.mem_append.1 taken with before | last
  · exact (List.takeWhile_sublist _).subset before
  · exact (List.dropWhile_sublist _).subset (List.mem_of_mem_take last)

theorem grantFrames_cons (g : PriorityEntry × CallOutcome) (rest : List (PriorityEntry × CallOutcome))
    (queued : Nat) : grantFrames (g :: rest) queued =
      outcomesPlaced g.2 [g.1] queued ++
        grantFrames rest (queued + (outcomesPlaced g.2 [g.1] queued).length) := by
  unfold grantFrames outcomesPlaced
  cases frame : outcomeFrame g.2 g.1 with
  | none => simp [frame]
  | some item =>
    cases room : Config.lineReplyPlaces - queued with
    | zero => simp [frame, show Config.lineReplyPlaces - queued = 0 from room]
    | succ n =>
      have left : Config.lineReplyPlaces - (queued + 1) = n := by omega
      simp [frame, left]

theorem grantFrames_single (g : PriorityEntry × CallOutcome) (queued : Nat) :
    grantFrames [g] queued = outcomesPlaced g.2 [g.1] queued := by
  rw [grantFrames_cons]
  simp [grantFrames]

theorem grantNotices_single (g : PriorityEntry × CallOutcome) (queued : Nat) :
    grantNotices [g] queued = outcomeNotices g.2 [g.1] queued := by simp [grantNotices]

/-! ### What an evaluation does (R127 to R131) -/

/-- What the last of the grants moves: EXTEND and EARLY change the record and queue a steer, and NONE and no
grant leave both (R128 to R130). -/
def LastGrantMoves (j : Junction) (s u : State) : Option (PriorityEntry × CallOutcome) → Prop
  | some (e, .granted .extend x) =>
    u.cycles = withCycle s j
      (extendedCycle (s.store.plan s.cycles[j].plan).head e.tag x s.cycles[j]) ∧
    SteerQueued s u (steerOf u j .extend x)
  | some (_, .granted .early a) =>
    u.cycles = withCycle s j (shortenedCycle (s.store.plan s.cycles[j].plan).head a s.cycles[j]) ∧
    SteerQueued s u (steerOf u j .early a)
  | _ => u.cycles = s.cycles ∧ lineSteers u.line = lineSteers s.line

/-- Between `s` and `u` these entries left the list with these outcomes, each with its frame and notice, and
the last of them moved the record of junction j. -/
structure EntriesServed (j : Junction) (s u : State) (grants : List (PriorityEntry × CallOutcome)) :
    Prop where
  told  : Spoke s u (grantFrames grants (lineReplyCount s.line)) (grantNotices grants (lineReplyCount s.line))
  list  : u.priority = { s.priority with
    list := s.priority.list.filter fun x => !grants.any fun g => hasKey g.1.junction g.1.tag x }
  moved : LastGrantMoves j s u grants.getLast?

section
variable {s u v : State} {j : Junction}

theorem LastGrantMoves.after {last : Option (PriorityEntry × CallOutcome)} (h : LastGrantMoves j v u last)
    (cycles : v.cycles = s.cycles) (store : v.store = s.store) (steers : SteersStand s v) :
    LastGrantMoves j s u last := by
  unfold LastGrantMoves withCycle at h ⊢
  rw [cycles, store] at h
  split at h
  · exact ⟨h.1, h.2.after steers⟩
  · exact ⟨h.1, h.2.after steers⟩
  · exact ⟨h.1, h.2.trans steers.same⟩

theorem decisionFor_congr (store : u.store = s.store) (cycles : u.cycles = s.cycles)
    (clock : u.priority.clock = s.priority.clock) : decisionFor u j = decisionFor s j := by
  funext e
  simp only [decisionFor, store, cycles, clock]

theorem removeEntry_lineReplyCount (e : PriorityEntry) (o : CallOutcome) (s : State) :
    lineReplyCount (removeEntry e o s).line =
      lineReplyCount s.line + (outcomesPlaced o [e] (lineReplyCount s.line)).length := by
  rw [lineReplyCount_eq, (removeEntry_spoke e o s).replies, List.length_append, ← lineReplyCount_eq]

theorem entriesServed_nil (j : Junction) (s : State) : EntriesServed j s s [] :=
  ⟨by simpa [grantFrames, grantNotices] using Spoke.of_eq (s := s) rfl rfl rfl, by simp, rfl, rfl⟩

/-- A NONE grant, and then what follows it. -/
theorem EntriesServed.after_none {e : PriorityEntry} {grants : List (PriorityEntry × CallOutcome)}
    (h : EntriesServed j (removeEntry e (.granted .none 0) s) u grants) :
    EntriesServed j s u ((e, .granted .none 0) :: grants) := by
  refine ⟨?_, ?_, ?_⟩
  · have told := (removeEntry_spoke e (.granted .none 0) s).trans h.told
    rw [removeEntry_lineReplyCount] at told
    rwa [grantFrames_cons]
  · rw [h.list, removeEntry_priority]
    simp only [List.filter_filter, List.any_cons, Bool.not_or, Bool.and_comm]
  · have moved := h.moved.after (by simp) (by simp) (removeEntry_steersStand e _ s)
    cases grants with
    | nil => exact moved
    | cons g rest => exact moved

/-- The grant that ends an evaluation: the record, the steer, and then the entry leaves. -/
def lastGranted (j : Junction) (e : PriorityEntry) (a : PriorityAction) (n : Nat) (r : LocalCycle)
    (s : State) : State :=
  removeEntry e (.granted a n) (queueSteer j a n (setCycle s j r))

section
variable (j : Junction) (e : PriorityEntry) (a : PriorityAction) (n : Nat) (r : LocalCycle) (s : State)

theorem lastGranted_spoke : Spoke s (lastGranted j e a n r s)
    (grantFrames [(e, .granted a n)] (lineReplyCount s.line))
    (grantNotices [(e, .granted a n)] (lineReplyCount s.line)) := by
  have told := ((queueSteer_spoke j a n (setCycle s j r)).after_eq (s := s) (by simp) (by simp)
    (by simp)).trans (removeEntry_spoke e (.granted a n) (queueSteer j a n (setCycle s j r)))
  rw [grantFrames_single, grantNotices_single]
  simpa [lastGranted] using told

theorem lastGranted_cycles : (lastGranted j e a n r s).cycles = withCycle s j r := by
  simp [lastGranted, setCycle, withCycle]

theorem lastGranted_queued :
    SteerQueued s (lastGranted j e a n r s) (steerOf (lastGranted j e a n r s) j a n) := by
  have placed := (queueSteer_queued j a n (setCycle s j r)).after (s := s)
    (.of_eq (by simp) (by simp) (by simp))
  have steer : steerOf (lastGranted j e a n r s) j a n = steerOf (setCycle s j r) j a n :=
    steerOf_congr j a n (by simp [lastGranted])
  exact steer ▸ placed.then_same (removeEntry_steers e _ _)

theorem lastGranted_priority : (lastGranted j e a n r s).priority = { s.priority with
    list := s.priority.list.filter fun x => !hasKey e.junction e.tag x } := by
  simp [lastGranted]

variable {j e a n r}

theorem lastGranted_served
    (moved : LastGrantMoves j s (lastGranted j e a n r s) (some (e, .granted a n))) :
    EntriesServed j s (lastGranted j e a n r s) [(e, .granted a n)] :=
  ⟨lastGranted_spoke j e a n r s, by simpa using lastGranted_priority j e a n r s, moved⟩

end

/-- An evaluation serves the grants of its entries, in their order (R127). -/
theorem serveEntries_served (j : Junction) (es : List PriorityEntry) (s : State) :
    EntriesServed j s (serveEntries j es s) (grantsOf (decisionFor s j) es) := by
  induction es generalizing s with
  | nil => exact entriesServed_nil j s
  | cons e rest ih =>
    rw [grantsOf_cons]
    unfold serveEntries
    dsimp only
    split
    · next d =>
      rw [show decisionFor s j e = .serve from d]
      have later := ih (removeEntry e (.granted .none 0) s)
      rw [decisionFor_congr (s := s) (by simp) (by simp) (by simp)] at later
      exact later.after_none
    · next x d =>
      rw [show decisionFor s j e = .extend x from d]
      exact lastGranted_served s ⟨lastGranted_cycles .., lastGranted_queued ..⟩
    · next a d =>
      rw [show decisionFor s j e = .early a from d]
      exact lastGranted_served s ⟨lastGranted_cycles .., lastGranted_queued ..⟩
    · next d =>
      rw [show decisionFor s j e = .wait from d]
      exact ih s

theorem mayEvaluate_iff (s : State) (j : Junction) : mayEvaluate s j = true ↔ MayGrant s j := by
  simp [mayEvaluate, MayGrant, and_assoc]

theorem evaluate_idle (idle : ¬ MayGrant s j) : evaluate j s = s :=
  if_neg (mt (mayEvaluate_iff s j).1 idle)

theorem evaluate_served (may : MayGrant s j) : EntriesServed j s (evaluate j s) (grantsMade s j) := by
  rw [grantsMade_eq, evaluate, if_pos ((mayEvaluate_iff s j).2 may)]
  exact serveEntries_served j _ s

/-- Where keys are distinct the entries with the keys of the granted ones are the granted ones (R124). -/
theorem keyed_iff_granted (keys : (s.priority.list.map fun e => (e.junction, e.tag)).Nodup)
    {x : PriorityEntry} (listed : x ∈ s.priority.list) :
    ((grantsMade s j).any fun g => hasKey g.1.junction g.1.tag x) =
      decide (x ∈ (grantsMade s j).map Prod.fst) := by
  rw [Bool.eq_iff_iff, List.any_eq_true, decide_eq_true_iff, List.mem_map]
  refine exists_congr fun g => and_congr_right fun granted => ⟨fun key => ?_, fun same => ?_⟩
  · have waiting := (List.mem_filter.1 (mem_of_mem_grantsOf granted)).1
    obtain ⟨junction, tag⟩ := hasKey_iff.1 key
    exact List.inj_on_of_nodup_map keys waiting listed (Prod.ext junction.symm tag.symm)
  · exact hasKey_iff.2 ⟨by rw [same], by rw [same]⟩

end

/-- Settles O45: the rows of the decision, then the grants in list order. -/
theorem evaluationDecides : Obligations.EvaluationDecides := by
  refine ⟨?_, ?_⟩
  · intro h c r left a
    have early : earlyAmount h c r = a.toNat := earlyAmount_eq h c r
    refine ⟨fun opened lasts => ?_, fun opened part beyond extends' reach => ?_,
      fun opened part beyond out => ?_, fun closed window before amount => ?_, fun closed out => ?_⟩
    · rw [decideEntry_open h c r opened, if_pos lasts]
    · rw [decideEntry_open h c r opened, if_neg (by simp [part]; omega), if_pos ⟨extends', reach⟩]
    · rw [decideEntry_open h c r opened, if_neg (by simp [part]; omega), if_neg (by omega)]
    · rw [decideEntry_closed h c r closed, early, if_pos ⟨window, before, by omega⟩]
    · rw [decideEntry_closed h c r closed, early, if_neg (by omega)]
  · intro s j keys u c lockout grants
    refine ⟨evaluate_idle, fun may => ?_⟩
    have served : EntriesServed j s u grants := evaluate_served may
    refine ⟨?_, served.told.replies, ⟨served.told.centreErrors, served.told.notices⟩,
      served.told.nothingServed, served.told.kept, served.told.missed, served.told.beats, served.moved⟩
    have list : u.priority = { s.priority with
        list := s.priority.list.filter fun e => !decide (e ∈ grants.map Prod.fst) } := by
      rw [served.list]
      exact congrArg (fun l => { s.priority with list := l }) <|
        List.filter_congr fun x listed => congrArg _ (keyed_iff_granted keys listed)
    apply State.ext
    case priority => exact list
    case cycles => rfl
    case line => rfl
    case centre => rfl
    all_goals simp [u]

end Sys2Proof.Machine
end

section
/-! PRIORITY_CALL: the refusals, the entry listed, and the grant of a call that is serviceable at once (R125 to
R131). -/

namespace Sys2Proof.Machine

open Sys2Proof

/-! ### The answer to a call (R125) -/

/-- An entry with this key is listed (R124). -/
def KeyListed (s : State) (j : Junction) (tag : Nat) : Prop :=
  ∃ e ∈ s.priority.list, e.junction = j ∧ e.tag = tag

/-- Junction j is heard and follows (R125). -/
def Heard (s : State) (j : Junction) : Prop :=
  s.roster.junctions[j].state ≠ .lost ∧ s.roster.junctions[j].following = true

/-- The source that a call from a port gives its entry (R126). -/
def sourceOf (t : Taken) : Source :=
  if t.port = .centre then .centre else .station (addressOf t.frame.src)

/-- The entry of a call (R126). -/
def calledEntry (s : State) (t : Taken) (b : CallBody) (j : Junction) : PriorityEntry :=
  { junction := j, direction := b.direction, tag := b.tag, source := sourceOf t
    due := (s.priority.clock + min b.eta 600) % 4294967296
    expiry := (s.priority.clock + 10 * s.store.geometry.head.priorityExpiry) % 4294967296 }

/-- The state with the call answered and its entry listed, in which the junction is evaluated (R126). -/
def callTaken (s : State) (t : Taken) (b : CallBody) (j : Junction) : State :=
  (answered s t .ok []).setPriority
    { s.priority with list := listCall (calledEntry s t b j) s.priority.list }

section
variable {s : State} {t : Taken} {b : CallBody} {j : Junction}

theorem any_hasKey_iff (s : State) (j : Junction) (tag : Nat) :
    s.priority.list.any (hasKey j tag) = true ↔ KeyListed s j tag := by
  simp [KeyListed, hasKey]

theorem Admits.callMade (h : Admits s t (.priorityCall b)) : Carries s t .priorityCall parseCall b :=
  h.carries rfl (fun _ => rfl) fun _ _ => Request.priorityCall.inj

open Classical in
/-- The rows of R125 after its first, in their order. -/
theorem firstRefusal_callRefusals (b : CallBody) (j : Junction) (s : State) :
    firstRefusal (callRefusals b j s) =
      if s.timebase.mode ≠ .run then .wrongMode
      else if permits (s.store.plan s.timebase.active) j b.direction = false then .badArgument
      else if ¬ Heard s j then .notReady
      else if ¬ KeyListed s j b.tag ∧ Config.priorityPlaces ≤ s.priority.list.length then .listFull
      else .ok := by
  have listed : (findEntry s j b.tag).isNone = decide (¬ KeyListed s j b.tag) := by
    rw [findEntry_isNone, decide_not, ← any_hasKey_iff, Bool.decide_eq_true]
  have heard : (decide (s.roster.junctions[j].state = .lost) || !s.roster.junctions[j].following) =
      decide (¬ Heard s j) := by
    rw [Bool.eq_iff_iff]
    simp [Heard, imp_iff_not_or]
  simp only [callRefusals, firstRefusal_cons, listed, heard]
  simp

theorem callRefusals_takeFrame (b : CallBody) (j : Junction) (p : Port) (s : State) :
    callRefusals b j (takeFrame p s) = callRefusals b j s := by
  simp [callRefusals, findEntry]

theorem answerCall_admitted (named : b.junction = j.val) (below : j.val < junctionCount s)
    (tag : b.tag ≠ 0) :
    (answerCall t b (takeFrame t.port s)).code = firstRefusal (callRefusals b j s) := by
  rw [answerCall_code t _ named, callRefusals_takeFrame, if_neg]
  simpa [tag, junctionCount, named] using below

theorem answerCall_accepted (named : b.junction = j.val) (below : j.val < junctionCount s) (tag : b.tag ≠ 0)
    (run : s.timebase.mode = .run) (allowed : permits (s.store.plan s.timebase.active) j b.direction = true)
    (heard : Heard s j) (room : KeyListed s j b.tag ∨ s.priority.list.length < Config.priorityPlaces) :
    (answerCall t b (takeFrame t.port s)).code = .ok := by
  have full : ¬ (¬ KeyListed s j b.tag ∧ Config.priorityPlaces ≤ s.priority.list.length) :=
    fun ⟨new, full⟩ => room.elim new (Nat.not_lt.2 full)
  simp [answerCall_admitted named below tag, firstRefusal_callRefusals, run, allowed, heard, full]

theorem answerCall_badArgument (out : b.tag = 0 ∨ junctionCount s ≤ b.junction) :
    (answerCall t b (takeFrame t.port s)).code = .badArgument := by
  have out' : b.tag = 0 ∨ junctionCount (takeFrame t.port s) ≤ b.junction := by
    simpa [junctionCount] using out
  simp [answerCall, out', refuse]

/-! ### The entry of a call (R126) -/

theorem callEntry_answered (s : State) (t : Taken) (b : CallBody) (j : Junction) :
    callEntry t b j (answered s t .ok []) = calledEntry s t b j := by
  have source : t.source = sourceOf t := by
    unfold Taken.source sourceOf
    cases t.port <;> rfl
  simp [callEntry, calledEntry, source, timeAfter, Config.clockModulus, Config.etaMax]

/-- An accepted call is answered and listed, and the junction is evaluated (R126). -/
theorem exec_priorityCall (rest : AtRest s) (h : Admits s t (.priorityCall b)) (named : b.junction = j.val)
    (accepted : (answerCall t b (takeFrame t.port s)).code = .ok) :
    exec .priorityCall s = .next (evaluate j (callTaken s t b j)) := by
  rw [h.callMade.accepted (answer := answerCall) (effect := effectCall) rfl accepted (answerCall_result t b _)]
  have effect : effectCall t b (answered s t .ok []) = evaluate j (callTaken s t b j) := by
    simp [effectCall, named, callEntry_answered, callTaken]
  rw [effect, settle_rest]
  simpa [AtRest, callTaken] using rest

theorem callTaken_mayGrant (s : State) (t : Taken) (b : CallBody) (j i : Junction) :
    MayGrant (callTaken s t b j) i ↔ MayGrant s i := by
  simp [MayGrant, callTaken, gatedNow, junctionCount]

theorem listCall_listed (listed : KeyListed s j b.tag) :
    listCall (calledEntry s t b j) s.priority.list =
      s.priority.list.map fun e => if e.junction = j ∧ e.tag = b.tag then calledEntry s t b j else e := by
  refine (if_pos ((any_hasKey_iff s j b.tag).2 listed)).trans (List.map_congr_left fun e _ => ?_)
  exact if_congr hasKey_iff rfl rfl

theorem listCall_new (new : ¬ KeyListed s j b.tag) :
    listCall (calledEntry s t b j) s.priority.list = s.priority.list ++ [calledEntry s t b j] :=
  if_neg (mt (any_hasKey_iff s j b.tag).1 new)

end

/-- Settles O44: the rows of the refusal, then the entry listed behind the reply. -/
theorem callListed : Obligations.CallListed := by
  intro s t b rest h
  have carries := h.callMade
  refine ⟨fun out => ?_, ?_⟩
  · exact carries.refused (answer := answerCall) rfl (answerCall_badArgument out) (by decide)
  intro j named below tag permitted heard listed entry
  have code := (answerCall_admitted (t := t) named below tag).trans (firstRefusal_callRefusals b j s)
  refine ⟨fun idle => ?_, fun run (barred : permits _ j b.direction = false) => ?_,
    fun run (allowed : permits _ j b.direction = true) (deaf : ¬ Heard s j) => ?_,
    fun run (allowed : permits _ j b.direction = true) (hears : Heard s j) (new : ¬ KeyListed s j b.tag)
      (full : Config.priorityPlaces ≤ _) => ?_,
    fun run allowed hears room => ?_⟩
  · exact carries.refused (answer := answerCall) rfl (by simp [code, idle]) (by decide)
  · exact carries.refused (answer := answerCall) rfl (by simp [code, run, barred]) (by decide)
  · exact carries.refused (answer := answerCall) rfl (by simp [code, run, allowed, deaf]) (by decide)
  · exact carries.refused (answer := answerCall) rfl (by simp [code, run, allowed, hears, new, full])
      (by decide)
  · have accepted := answerCall_accepted (t := t) named below tag run allowed hears room
    refine ⟨callTaken s t b j, exec_priorityCall rest h named accepted, fun idle => ?_,
      accepted_of_eq rfl rfl rfl, ?_, listCall_new, listCall_listed⟩
    · exact evaluate_idle (mt (callTaken_mayGrant s t b j j).1 idle)
    · apply State.ext <;> simp [callTaken]

end Sys2Proof.Machine
end

section
/-! What an accepted priority request tells the ports behind its reply, and the call that is granted at once
(R126 to R131). -/

namespace Sys2Proof.Machine

open Sys2Proof

/-! ### The ports behind the reply (R126, R131, R165) -/

/-- The reply OK, these OUTCOME frames behind it and these notices, with the rest of the Line Port left but
for steers. -/
def ReplyThenTold (s u : State) (t : Taken) (outs : List ReplyItem) (bodies : List NoticeBody) : Prop :=
  RepliedThen s u t outs ∧ CentreNoticed s u bodies ∧ LineKept s u ∧ lineBeats u.line = lineBeats s.line ∧
  u.line.missedBeats = s.line.missedBeats ∧ u.handler.reset = s.handler.reset

section
variable {s u v : State} {t : Taken} {outs : List ReplyItem} {bodies : List NoticeBody}

theorem answered_then_told (told : Spoke (answered s t .ok []) u outs bodies) :
    ReplyThenTold s u t outs bodies := by
  obtain ⟨replied, reset, kept, noticed⟩ := replied_then_told (answered_replied s t .ok []) told.told
  obtain ⟨-, -, ⟨-, -, -, missed, beats, -, -⟩, -⟩ := answered_replied s t .ok []
  exact ⟨replied, noticed, kept, told.beats.trans beats, told.missed.trans missed, reset⟩

/-- Without an OUTCOME frame the reply is the only one. -/
theorem RepliedThen.replied (h : RepliedThen s u t []) : Replied s u t .ok [] := by
  obtain ⟨taken, line, centre⟩ := h
  cases port : t.port with
  | line => exact ⟨taken, by simpa [port] using line, by simpa [port, Port.other] using centre⟩
  | centre => exact ⟨taken, by simpa [port] using centre, by simpa [port, Port.other] using line⟩

end

/-! ### A call granted at once (R127 to R131) -/

/-- A time that lies less than half the clock's range ahead is read as far ahead as it lies (R123). -/
theorem timeAhead_of_ahead {clock d : Nat} (clock_lt : clock < 4294967296) (near : d < 2147483648) :
    timeAhead clock ((clock + d) % 4294967296) = d := by
  have ahead : ((clock + d) % 4294967296 + 4294967296 - clock) % 4294967296 = d := by omega
  simp [timeAhead, Config.clockModulus, ahead, near]

section
variable {s u : State} {t : Taken} {b : CallBody} {j : Junction}

theorem callTaken_decision (clock : s.priority.clock < 4294967296) :
    decisionFor (callTaken s t b j) j (calledEntry s t b j) =
      decideEntry (s.store.plan s.cycles[j].plan).head s.cycles[j] (min b.eta 600) := by
  have ahead := timeAhead_of_ahead clock (d := min b.eta 600) (by omega)
  simp [decisionFor, callTaken, calledEntry, ahead]

variable (alone : ∀ e ∈ s.priority.list, e.junction ≠ j)
include alone

theorem callTaken_list : (callTaken s t b j).priority.list = s.priority.list ++ [calledEntry s t b j] :=
  listCall_new fun ⟨e, listed, same, _⟩ => alone e listed same

/-- The call is the only entry that waits for its junction (R127). -/
theorem callTaken_grants : grantsMade (callTaken s t b j) j =
    grantsOf (decisionFor (callTaken s t b j) j) [calledEntry s t b j] := by
  have others : (s.priority.list.filter fun e => decide (e.junction = j)) = [] := by
    simpa [List.filter_eq_nil_iff] using alone
  rw [grantsMade_eq, callTaken_list alone, List.filter_append, others]
  simp [calledEntry]

/-- The entry that was granted at once has left the list (R131). -/
theorem EntriesServed.call_left {o : CallOutcome}
    (served : EntriesServed j (callTaken s t b j) u [(calledEntry s t b j, o)]) : u.priority = s.priority := by
  rw [served.list, callTaken_list alone]
  have stay : (s.priority.list.filter fun x => !hasKey j b.tag x) = s.priority.list :=
    List.filter_eq_self.2 fun x listed => by simp [hasKey, alone x listed]
  have gone : hasKey j b.tag (calledEntry s t b j) = true := hasKey_iff.2 ⟨rfl, rfl⟩
  have key : (calledEntry s t b j).junction = j ∧ (calledEntry s t b j).tag = b.tag := ⟨rfl, rfl⟩
  simp [List.filter_append, key, gone, stay, callTaken]

end

theorem serveEntries_waits {s : State} {j : Junction} {es : List PriorityEntry}
    (waits : ∀ e ∈ es, decisionFor s j e = .wait) : serveEntries j es s = s := by
  induction es with
  | nil => rfl
  | cons e rest ih =>
    obtain ⟨first, others⟩ := List.forall_mem_cons.1 waits
    unfold decisionFor at first
    unfold serveEntries
    dsimp only
    rw [first]
    exact ih others

/-- An evaluation under which every entry of the junction waits changes nothing (R127). -/
theorem evaluate_waits {s : State} {j : Junction}
    (waits : ∀ e ∈ s.priority.list, e.junction = j → decisionFor s j e = .wait) : evaluate j s = s := by
  unfold evaluate
  split
  · refine serveEntries_waits fun e waiting => ?_
    obtain ⟨listed, same⟩ := List.mem_filter.1 waiting
    exact waits e listed (by simpa using same)
  · rfl

section
variable {s u : State} {t : Taken} {b : CallBody} {j : Junction}

/-- Behind the reply to a call stand the OUTCOME frame and the notice of its entry (R126, R131). -/
theorem EntriesServed.call_told {o : CallOutcome}
    (served : EntriesServed j (callTaken s t b j) u [(calledEntry s t b j, o)]) :
    ReplyThenTold s u t (outcomesPlaced o [calledEntry s t b j] (queuedWithReply s t))
      (outcomeNotices o [calledEntry s t b j] (queuedWithReply s t)) := by
  have told := served.told
  rw [grantFrames_single, grantNotices_single,
    show lineReplyCount (callTaken s t b j).line = queuedWithReply s t from
      answered_lineReplyCount s t .ok []] at told
  exact answered_then_told (told.after_eq rfl rfl rfl)

/-- An evaluation of a call leaves the other blocks. -/
theorem callServed_frame {cycles : Vector LocalCycle 12}
    (priority : (evaluate j (callTaken s t b j)).priority = s.priority)
    (moved : (evaluate j (callTaken s t b j)).cycles = cycles) :
    let u := evaluate j (callTaken s t b j)
    u = { s with cycles, line := u.line, centre := u.centre, handler := u.handler } := by
  apply State.ext <;> simp [priority, moved] <;> simp [callTaken]

theorem callTaken_steersStand : SteersStand s (callTaken s t b j) :=
  (answered_steersStand s t .ok []).trans (.of_eq rfl rfl rfl)

end

/-- Settles O46: the call's decision is the one grant of its evaluation. -/
theorem callGranted : Obligations.CallGranted := by
  intro s t b j rest h named below tag may allowed found room alone clock source entry head c leaves
  have ⟨run, _, _, _, _, follows, _, _⟩ := may
  refine ⟨_, exec_priorityCall rest h named
    (answerCall_accepted named below tag run allowed ⟨found, follows⟩ (.inr room)), ?_⟩
  set v := callTaken s t b j with hv
  have served := evaluate_served ((callTaken_mayGrant s t b j j).2 may)
  rw [callTaken_grants alone, grantsOf_cons, callTaken_decision clock, ← hv] at served
  have moved := served.moved.after (s := s) (by simp [hv, callTaken]) (by simp [hv, callTaken])
    callTaken_steersStand
  cases decided : decideEntry head c (min b.eta 600) with
  | wait =>
    have waits : evaluate j v = v := evaluate_waits fun e listed same => by
      rw [callTaken_list alone, List.mem_append, List.mem_singleton] at listed
      obtain rfl := listed.resolve_left fun old => alone e old same
      exact (callTaken_decision clock).trans decided
    rw [waits]
    refine ⟨accepted_of_eq rfl rfl rfl, ?_⟩
    have list := callTaken_list (t := t) (b := b) alone
    apply State.ext
    case priority => exact congrArg (fun l => { s.priority with list := l }) list
    all_goals simp [hv, callTaken]
  | serve =>
    rw [show decideEntry _ _ _ = .serve from decided] at served moved
    obtain ⟨cycles, steers⟩ : _ ∧ _ := moved
    exact ⟨served.call_told, steers, callServed_frame (served.call_left alone) cycles⟩
  | extend x =>
    rw [show decideEntry _ _ _ = .extend x from decided] at served moved
    obtain ⟨cycles, steer⟩ : _ ∧ _ := moved
    exact ⟨served.call_told, steer, callServed_frame (served.call_left alone) cycles⟩
  | early a =>
    rw [show decideEntry _ _ _ = .early a from decided] at served moved
    obtain ⟨cycles, steer⟩ : _ ∧ _ := moved
    exact ⟨served.call_told, steer, callServed_frame (served.call_left alone) cycles⟩

end Sys2Proof.Machine
end

section
/-! PRIORITY_CANCEL and the expiry of an entry (R131, R133 to R135). -/

namespace Sys2Proof.Machine

open Sys2Proof

/-! ### The entry with a key (R124) -/

/-- The one entry with its key is the one found. -/
theorem findEntry_of_unique {s : State} {e : PriorityEntry} {j : Junction} {tag : Nat}
    (listed : e ∈ s.priority.list) (key : e.junction = j ∧ e.tag = tag)
    (unique : ∀ e' ∈ s.priority.list, e'.junction = j ∧ e'.tag = tag → e' = e) :
    findEntry s j tag = some e := by
  obtain ⟨e', found⟩ := Option.isSome_iff_exists.1 (List.find?_isSome.2 ⟨e, listed, hasKey_iff.2 key⟩)
  have same := unique e' (List.mem_of_find?_eq_some found) (hasKey_iff.1 (List.find?_some found))
  exact same ▸ found

theorem findEntry_of_none {s : State} {j : Junction} {tag : Nat}
    (absent : ∀ e ∈ s.priority.list, ¬ (e.junction = j ∧ e.tag = tag)) : findEntry s j tag = none :=
  List.find?_eq_none.2 fun e listed => mt hasKey_iff.1 (absent e listed)

/-- The list without the entries of a key. -/
theorem removeEntry_list {s : State} {e : PriorityEntry} {j : Junction} {tag : Nat}
    (key : e.junction = j ∧ e.tag = tag) (o : CallOutcome) :
    (removeEntry e o s).priority = { s.priority with
      list := s.priority.list.filter fun x => !decide (x.junction = j ∧ x.tag = tag) } := by
  obtain ⟨rfl, rfl⟩ := key
  simp [hasKey]

/-! ### The cut of an extension (R134) -/

/-- The record moved by a cut, its steer, and its notice. -/
def cutMade (j : Junction) (tag amount : Nat) (r : LocalCycle) (s : State) : State :=
  queueNotice (.priorityCut tag amount) (queueSteer j .cut amount (setCycle s j r))

section
variable (j : Junction) (tag amount : Nat) (r : LocalCycle) (s : State)

theorem cutMade_spoke : Spoke s (cutMade j tag amount r s) [] [.priorityCut tag amount] :=
  (((queueSteer_spoke j .cut amount (setCycle s j r)).trans (queueNotice_spoke _ _)).after_eq (by simp)
    (by simp) (by simp))

theorem cutMade_cycles : (cutMade j tag amount r s).cycles = withCycle s j r := by
  simp [cutMade, setCycle, withCycle]

theorem cutMade_queued :
    SteerQueued s (cutMade j tag amount r s) (steerOf (cutMade j tag amount r s) j .cut amount) := by
  have placed := (queueSteer_queued j .cut amount (setCycle s j r)).after (s := s)
    (.of_eq (by simp) (by simp) (by simp))
  have steer : steerOf (cutMade j tag amount r s) j .cut amount = steerOf (setCycle s j r) j .cut amount :=
    steerOf_congr j .cut amount (by simp [cutMade])
  exact steer ▸ placed.then_same (by simp [cutMade])

theorem cutMade_frame : cutMade j tag amount r s = { s with
    cycles := withCycle s j r
    line := (cutMade j tag amount r s).line, centre := (cutMade j tag amount r s).centre } := by
  apply State.ext
  case cycles => exact cutMade_cycles j tag amount r s
  all_goals simp [cutMade]

end

section
variable {j : Junction} {x : Extension} {s : State}

/-- A cut below g_eff leaves the window as it is (R134). -/
theorem cutExtension_early (early : s.cycles[j].lc < s.cycles[j].gEff) :
    cutExtension j x s = cutMade j x.tag x.amount { s.cycles[j] with
      windowEnd := s.cycles[j].gEff, lcur := s.cycles[j].lcur - x.amount, extension := none } s := by
  have open' : ¬ s.cycles[j].gEff ≤ s.cycles[j].lc := Nat.not_le.2 early
  unfold cutExtension cutMade cutCycle cutAmount
  dsimp only
  simp only [if_pos early, open', decide_false, Bool.not_false, Bool.and_true, Bool.false_eq_true, if_false]

/-- The close of a window already closed, of a junction that has acted in this cycle, changes nothing (R68,
R127). -/
theorem closeWindow_idle (closed : s.cycles[j].windowOpen = false) (ended : s.cycles[j].extension = none)
    (acted : s.cycles[j].actionTaken = true) : closeWindow j s = s := by
  have same : ({ s.cycles[j] with windowOpen := false, extension := none } : LocalCycle) = s.cycles[j] := by
    rw [← closed, ← ended]
  have kept : setCycle s j s.cycles[j] = s := by
    apply State.ext <;> simp [setCycle]
  rw [closeWindow, same, kept]
  refine evaluate_idle fun may => ?_
  obtain ⟨-, -, -, -, -, -, free, -⟩ := may
  exact Bool.false_ne_true (free.symm.trans acted)

/-- A cut from g_eff on closes the window, and grants nothing more (R134). -/
theorem cutExtension_late (late : s.cycles[j].gEff ≤ s.cycles[j].lc)
    (acted : s.cycles[j].actionTaken = true) :
    cutExtension j x s = cutMade j x.tag (s.cycles[j].windowEnd - s.cycles[j].lc) { s.cycles[j] with
      windowEnd := s.cycles[j].lc, lcur := s.cycles[j].lcur - (s.cycles[j].windowEnd - s.cycles[j].lc)
      windowOpen := false, extension := none } s := by
  have late' : ¬ s.cycles[j].lc < s.cycles[j].gEff := Nat.not_lt.2 late
  unfold cutExtension cutCycle cutAmount
  dsimp only
  simp only [if_neg late', late, decide_true, Bool.not_true, Bool.and_false, if_true]
  refine closeWindow_idle ?_ ?_ ?_
  · simp [setCycle]
  · simp [setCycle]
  · simpa [setCycle] using acted

end

/-! ### The answer to a cancel (R133) -/

section
variable {s : State} {t : Taken} {b : CancelBody} {j : Junction}

theorem Admits.cancelMade (h : Admits s t (.priorityCancel b)) :
    Carries s t .priorityCancel parseCancel b :=
  h.carries rfl (fun _ => rfl) fun _ _ => Request.priorityCancel.inj

theorem answerCancel_badArgument (out : b.tag = 0 ∨ junctionCount s ≤ b.junction) :
    (answerCancel t b (takeFrame t.port s)).code = .badArgument := by
  have out' : b.tag = 0 ∨ junctionCount (takeFrame t.port s) ≤ b.junction := by
    simpa [junctionCount] using out
  simp [answerCancel, out', refuse]

theorem answerCancel_code (named : b.junction = j.val) (below : j.val < junctionCount s) (tag : b.tag ≠ 0) :
    (answerCancel t b (takeFrame t.port s)).code =
      if findEntry s j b.tag = none ∧ extensionWith s j b.tag = none then .notFound else .ok := by
  have inside : ¬ (b.tag = 0 ∨ junctionCount (takeFrame t.port s) ≤ b.junction) := by
    simpa [tag, junctionCount, named] using below
  unfold answerCancel
  rw [if_neg inside, named, junctionAt_val]
  simp [firstRefusal_cons, findEntry, extensionWith]

theorem answerCancel_result (t : Taken) (b : CancelBody) (s : State) : (answerCancel t b s).result = [] := by
  unfold answerCancel
  repeat' split
  all_goals rfl

theorem extensionWith_of_tag {x : Extension} (held : s.cycles[j].extension = some x) :
    extensionWith s j x.tag = some x := by
  unfold extensionWith
  rw [held]
  exact if_pos rfl

theorem extensionWith_none {tag : Nat} (other : ∀ x, s.cycles[j].extension = some x → x.tag ≠ tag) :
    extensionWith s j tag = none := by
  unfold extensionWith
  split
  · next x held => exact if_neg (other x held)
  · rfl

/-- An accepted cancel of a listed entry (R133). -/
theorem exec_cancel_listed {e : PriorityEntry} (rest : AtRest s) (h : Admits s t (.priorityCancel b))
    (named : b.junction = j.val) (below : j.val < junctionCount s) (tag : b.tag ≠ 0)
    (found : findEntry s j b.tag = some e) :
    exec .priorityCancel s = .next (removeEntry e .cancelled (answered s t .ok [])) := by
  have found' : findEntry (answered s t .ok []) j b.tag = some e := by simpa [findEntry] using found
  rw [h.cancelMade.accepted (answer := answerCancel) (effect := effectCancel) rfl
    (by simp [answerCancel_code named below tag, found]) (answerCancel_result t b _), settle_rest]
  · simp [effectCancel, named, found']
  · simpa [effectCancel, named, found', AtRest] using rest

/-- An accepted cancel of an extension (R133). -/
theorem exec_cancel_extension {x : Extension} (rest : AtRest s) (h : Admits s t (.priorityCancel b))
    (named : b.junction = j.val) (below : j.val < junctionCount s) (tag : b.tag ≠ 0)
    (unlisted : findEntry s j b.tag = none) (held : extensionWith s j b.tag = some x) :
    exec .priorityCancel s = .next (cutExtension j x (answered s t .ok [])) := by
  have unlisted' : findEntry (answered s t .ok []) j b.tag = none := by simpa [findEntry] using unlisted
  have held' : extensionWith (answered s t .ok []) j b.tag = some x := by simpa [extensionWith] using held
  rw [h.cancelMade.accepted (answer := answerCancel) (effect := effectCancel) rfl
    (by simp [answerCancel_code named below tag, held]) (answerCancel_result t b _), settle_rest]
  · simp [effectCancel, named, unlisted', held']
  · simpa [effectCancel, named, unlisted', held', AtRest] using rest

/-- What a cut behind the reply leaves (R134). -/
theorem cutMade_answered (s : State) (t : Taken) (j : Junction) (tag amount : Nat) (r : LocalCycle) :
    let u := cutMade j tag amount r (answered s t .ok [])
    u = { s with cycles := withCycle s j r, line := u.line, centre := u.centre, handler := u.handler } ∧
    Replied s u t .ok [] ∧ CentreNoticed s u [.priorityCut tag amount] ∧
    SteerQueued s u (steerOf u j .cut amount) ∧ u.line.missedBeats = s.line.missedBeats ∧
    LineKept s u ∧ lineBeats u.line = lineBeats s.line ∧ u.handler.reset = s.handler.reset := by
  intro u
  obtain ⟨replied, noticed, kept, beats, missed, reset⟩ := answered_then_told (u := u)
    (cutMade_spoke j tag amount r (answered s t .ok []))
  refine ⟨?_, replied.replied, noticed,
    (cutMade_queued j tag amount r _).after (answered_steersStand s t .ok []), missed, kept, beats, reset⟩
  have frame : u = _ := cutMade_frame j tag amount r (answered s t .ok [])
  apply State.ext
  case line => rfl
  case centre => rfl
  case handler => rfl
  all_goals rw [frame]
  all_goals simp [withCycle]

end

/-- Settles O47: the answer, then the entry or the extension that the cancel names. -/
theorem cancelWithdrawsOrCuts : Obligations.CancelWithdrawsOrCuts := by
  intro s t b rest h
  have carries := h.cancelMade
  refine ⟨fun out => ?_, ?_⟩
  · exact carries.refused (answer := answerCancel) rfl (answerCancel_badArgument out) (by decide)
  intro j named below tag c listed cutTo
  have code := answerCancel_code (t := t) named below tag
  refine ⟨fun e member key unique => ?_, fun unlisted other => ?_, fun x unlisted held same => ?_⟩
  · have done := exec_cancel_listed rest h named below tag (findEntry_of_unique member key unique)
    set u := removeEntry e .cancelled (answered s t .ok []) with hu
    have told : Spoke _ u _ _ := removeEntry_spoke e .cancelled (answered s t .ok [])
    have priority : u.priority = _ := removeEntry_list key .cancelled
    rw [answered_lineReplyCount] at told
    obtain ⟨replied, noticed, -, -, -, reset⟩ := answered_then_told told
    refine ⟨u, done, ?_, replied, noticed, ?_, reset⟩
    · apply State.ext
      case priority =>
        rw [priority]
        simp only [answered_frame]
        rfl
      all_goals simp [hu]
    · obtain ⟨-, -, quiet, -, -⟩ := answered_replied s t .ok []
      exact quiet.trans (told.lineQuiet (removeEntry_steers e _ _))
  · have absent : findEntry s j b.tag = none := findEntry_of_none unlisted
    exact carries.refused (answer := answerCancel) rfl (by simp [code, absent, extensionWith_none other])
      (by decide)
  · have done := exec_cancel_extension rest h named below tag (findEntry_of_none unlisted)
      (same ▸ extensionWith_of_tag held)
    have cycles : (answered s t .ok []).cycles = s.cycles := by simp
    refine ⟨fun early => ⟨_, done, ?_⟩, fun late acted => ⟨_, done, ?_⟩⟩
    · rw [cutExtension_early (by rw [cycles]; exact early), cycles, same]
      exact cutMade_answered s t j b.tag x.amount _
    · rw [cutExtension_late (by rw [cycles]; exact late) (by rw [cycles]; exact acted), cycles, same]
      exact cutMade_answered s t j b.tag (c.windowEnd - c.lc) _

/-! ### The expiry of an entry (R135) -/

theorem expireEntry_found {s : State} {e : PriorityEntry} (found : findEntry s e.junction e.tag = some e) :
    expireEntry e.junction e.tag s = if expired s e then removeEntry e .expired s else s := by
  simp [expireEntry, found]

/-- Settles O48, by how far the expiry time lies ahead of the clock. -/
theorem entryExpires : Obligations.EntryExpires := by
  intro s e running listed unique clock
  have found : findEntry s e.junction e.tag = some e :=
    findEntry_of_unique listed ⟨rfl, rfl⟩ fun e' member ⟨junction, tag⟩ => unique e' member junction tag
  have event := exec_priorityExpiry e.junction s e.tag
  rw [whenRunning_running _ running, expireEntry_found found] at event
  refine ⟨fun d ahead near expiry => ?_, fun expiry => ?_⟩
  · have waits : expired s e = false := by
      rw [expired, expiry, timeAhead_of_ahead clock (by omega)]
      simpa using Nat.ne_of_gt ahead
    rw [event, waits]
    rfl
  · have reached : expired s e = true := (expired_iff s e).2 (.inl (by rw [expiry]; omega))
    rw [if_pos reached] at event
    have told := removeEntry_spoke e .expired s
    refine ⟨_, event, ?_, told.replies, told.lineQuiet (removeEntry_steers e _ s), told.nothingServed,
      told.centreErrors, told.notices⟩
    apply State.ext
    case priority => exact removeEntry_priority e .expired s
    all_goals simp

end Sys2Proof.Machine
end

section
/-! What an effect or an event can do to the two ports, said once as the steps that it is made of: notices,
OUTCOME frames, steers, beats, and queues emptied (R131, R154, R161, R163, R167). -/

namespace Sys2Proof.Machine

open Sys2Proof

/-- The ports of `u` are those of `s` after some steps, each of which leaves the ports, queues a notice,
places an OUTCOME frame where there is room, queues a steer or a beat, empties one of their queues, or
clears the counters. -/
inductive PortSteps : State → State → Prop where
  | idle {s u : State} (line : u.line = s.line) (centre : u.centre = s.centre)
      (served : u.handler.served = s.handler.served) : PortSteps s u
  | notice (body : NoticeBody) (s : State) : PortSteps s (queueNotice body s)
  | outcome {s : State} (o : OutcomeFrame) (room : lineReplyCount s.line < Config.lineReplyPlaces) :
      PortSteps s (queueLineReply (.outcome o) s)
  | steer (j : Junction) (a : PriorityAction) (n : Nat) (s : State) : PortSteps s (queueSteer j a n s)
  | beat (s : State) : PortSteps s (queueBeat s)
  | steersEmptied (s : State) : PortSteps s (emptySteers s)
  | beatEmptied (s : State) : PortSteps s (emptyBeat s)
  | cleared (s : State) : PortSteps s (clearCounters s)
  | trans {s v u : State} (first : PortSteps s v) (rest : PortSteps v u) : PortSteps s u

section
variable {s u v : State}

theorem PortSteps.refl (s : State) : PortSteps s s := .idle rfl rfl rfl

/-- What follows the steps may change anything but the ports. -/
theorem PortSteps.then_idle (h : PortSteps s v) (line : u.line = v.line) (centre : u.centre = v.centre)
    (served : u.handler.served = v.handler.served) : PortSteps s u := h.trans (.idle line centre served)

/-- What precedes the steps may change anything but the ports. -/
theorem PortSteps.after_idle (h : PortSteps v u) (line : v.line = s.line) (centre : v.centre = s.centre)
    (served : v.handler.served = s.handler.served) : PortSteps s u := .trans (.idle line centre served) h

/-! ### Entries that leave the priority list, and evaluations (R127, R131, R134, R136) -/

theorem sendOutcome_steps (e : PriorityEntry) (o : CallOutcome) (s : State) :
    PortSteps s (sendOutcome e o s) := by
  unfold sendOutcome
  split
  · exact .refl s
  · split
    · next room => exact .outcome _ room
    · exact .refl s

theorem removeEntry_steps (e : PriorityEntry) (o : CallOutcome) (s : State) :
    PortSteps s (removeEntry e o s) := by
  unfold removeEntry
  dsimp only
  generalize hv : s.setPriority _ = v
  have removed : PortSteps s v := hv ▸ .idle rfl rfl rfl
  exact (removed.trans (sendOutcome_steps e o v)).trans (.notice _ _)

theorem removeAll_steps (o : CallOutcome) (es : List PriorityEntry) (s : State) :
    PortSteps s (removeAll o es s) := by
  induction es generalizing s with
  | nil => exact .refl s
  | cons e rest ih => exact (removeEntry_steps e o s).trans (ih _)

theorem dropEntries_steps (picks : PriorityEntry → Bool) (r : DropReason) (s : State) :
    PortSteps s (dropEntries picks r s) := removeAll_steps _ _ s

theorem serveEntries_steps (j : Junction) (es : List PriorityEntry) (s : State) :
    PortSteps s (serveEntries j es s) := by
  have granted : ∀ s e o a n r, PortSteps s (removeEntry e o (queueSteer j a n (setCycle s j r))) :=
    fun s e o a n r => ((PortSteps.steer j a n (setCycle s j r)).trans
      (removeEntry_steps e o _)).after_idle rfl rfl rfl
  induction es generalizing s with
  | nil => exact .refl s
  | cons e rest ih =>
    unfold serveEntries
    dsimp only
    split
    · exact (removeEntry_steps e _ s).trans (ih _)
    · exact granted s e _ _ _ _
    · exact granted s e _ _ _ _
    · exact ih s

theorem evaluate_steps (j : Junction) (s : State) : PortSteps s (evaluate j s) := by
  unfold evaluate
  split
  · exact serveEntries_steps j _ s
  · exact .refl s

theorem closeWindow_steps (j : Junction) (s : State) : PortSteps s (closeWindow j s) :=
  (evaluate_steps j (setCycle s j _)).after_idle rfl rfl rfl

theorem cutExtension_steps (j : Junction) (e : Extension) (s : State) :
    PortSteps s (cutExtension j e s) := by
  unfold cutExtension
  dsimp only
  generalize hv : setCycle s j _ = v
  have cycle : PortSteps s v := hv ▸ .idle rfl rfl rfl
  have cut := fun n m => ((cycle.trans (.steer j .cut n v)).trans (.notice (.priorityCut e.tag m) _))
  split
  · exact (cut _ _).trans (closeWindow_steps j _)
  · exact cut _ _

/-! ### Reports, period ends and changes of N (R116, R120, R121, R141, R143, R145, R148) -/

theorem setSpill_steps (d : Direction) (k : LinkIndex) (v : Spill) (j : Nat) (r : SpillReason)
    (s : State) : PortSteps s (setSpill d k v j r s) := by
  have written : PortSteps s (writeSpill d k v s) := .idle (by simp) (by simp) (by simp)
  unfold setSpill
  dsimp only
  split
  · exact written
  · exact (written.trans (.notice _ _)).then_idle rfl rfl rfl

theorem gateReport_steps (j : Junction) (b : ReportBody) (s : State) : PortSteps s (gateReport j b s) := by
  have stepped : ∀ d k flag v, PortSteps v (stepSpill d k flag j v) := by
    intro d k flag v
    cases k with
    | none => exact .refl v
    | some k => exact setSpill_steps _ _ _ _ _ v
  exact (stepped _ _ _ s).trans (stepped _ _ _ _)

theorem gateLost_steps (j : Junction) (s : State) : PortSteps s (gateLost j s) := by
  have cleared : ∀ d k v, PortSteps v (clearSpill d k j.val .lost v) := by
    intro d k v
    cases k with
    | none => exact .refl v
    | some k => exact setSpill_steps _ _ _ _ _ v
  exact (cleared _ _ s).trans (cleared _ _ _)

theorem acceptReport_steps (j : Junction) (b : ReportBody) (s : State) :
    PortSteps s (acceptReport j b s) := by
  unfold acceptReport
  dsimp only
  generalize hv : demandReport j _ b _ = v
  have heard : PortSteps s v := by
    rw [← hv]
    exact .idle (by simp) (by simp) (by simp)
  have measured := heard.trans (gateReport_steps j b v)
  generalize hw : (if b.following = true then gateReport j b v
    else dropEntries _ .notFollowing (gateReport j b v)) = w
  have dropped : PortSteps s w := by
    rw [← hw]
    split
    · exact measured
    · exact measured.trans (dropEntries_steps _ _ _)
  split
  · exact dropped.trans (.notice _ w)
  · exact dropped

theorem periodEndFor_steps (j : Junction) (s : State) : PortSteps s (periodEndFor j s) := by
  unfold periodEndFor enterLost
  dsimp only
  generalize hv : setRosterEntry s j _ = v
  have ended : PortSteps s v := hv ▸ .idle rfl rfl rfl
  split
  · have monitored : PortSteps s (demandLost j v) := ended.then_idle (by simp) (by simp) (by simp)
    have dropped := (monitored.trans (gateLost_steps j _)).trans 
      (dropEntries_steps (fun e => decide (e.junction = j)) .lost _)
    exact dropped.trans ((PortSteps.notice _ (raiseCause _)).after_idle rfl rfl rfl)
  · exact ended

theorem forJunctions_steps {act : Junction → State → State} (each : ∀ j v, PortSteps v (act j v))
    (js : List Junction) (s : State) : PortSteps s (forJunctions act js s) := by
  induction js generalizing s with
  | nil => exact .refl s
  | cons j rest ih => exact (each j s).trans (ih _)

theorem gateForN_steps (n : Nat) (ks : List LinkIndex) (s : State) : PortSteps s (gateForN n ks s) := by
  induction ks generalizing s with
  | nil => exact .refl s
  | cons k rest ih =>
    unfold gateForN
    split
    · exact ih s
    · exact ((setSpill_steps _ _ _ _ _ s).trans (setSpill_steps _ _ _ _ _ _)).trans (ih _)

theorem changeN_steps (old : Nat) (s : State) : PortSteps s (changeN old s) := by
  unfold changeN
  dsimp only
  split
  · exact .refl s
  · exact (gateForN_steps _ _ (State.setDemand _ _)).after_idle rfl rfl rfl

/-! ### The Timebase (R53, R54, R56, R57, R59, R173) -/

/-- The arrival of the causes of an event leaves the ports (R28). -/
theorem PortSteps.settle (h : PortSteps s v) : PortSteps s (settle v) :=
  h.then_idle (by simp) (by simp) (by simp)

theorem enterEntering_steps (p : Nat) (s : State) : PortSteps s (enterEntering p s) := by
  unfold enterEntering
  dsimp only
  generalize hv : State.setSelector _ _ = v
  have entered : PortSteps s v := hv ▸ .idle rfl rfl rfl
  exact (entered.trans (.notice _ v)).then_idle rfl rfl rfl

theorem stopCoordination_steps (r : DropReason) (s : State) : PortSteps s (stopCoordination r s) := by
  unfold stopCoordination
  dsimp only
  generalize hv : State.setDue _ _ = v
  have held : PortSteps s v := hv ▸ .idle rfl rfl rfl
  have dropped := (held.trans (.steersEmptied v)).trans (dropEntries_steps (fun _ => true) r _)
  exact dropped.then_idle (by simp) (by simp) (by simp)

theorem holdEffects_steps (s : State) : PortSteps s (holdEffects s) :=
  ((stopCoordination_steps .hold s).trans (.beat _)).trans (.notice _ _)

theorem engineReset_steps (s : State) : PortSteps s (engineReset s) := by
  have stopped := PortSteps.trans (.beatEmptied s) (stopCoordination_steps .engineReset _)
  have reset : PortSteps s (resetCoordination s) := by
    unfold resetCoordination
    dsimp only
    split
    · exact stopped
    · exact (stopped.trans (.beat _)).trans (.notice _ _)
  exact reset.then_idle (engineReset_line s) (engineReset_centre s) (by simp)

theorem enterRun_steps (s : State) : PortSteps s (enterRun s) := by
  have beat : PortSteps s (entryBeat s) := 
    (PortSteps.beat (s.setTimebase (entryTimebase s))).after_idle rfl rfl rfl
  have placed : PortSteps s (entryPlaced s) := beat.then_idle rfl rfl rfl
  have steered := placed.trans (forJunctions_steps (act := plainSteer) (fun j v => .steer j _ _ v)
    (liveJunctions (entryPlaced s)) _)
  have entered : PortSteps s (enteredRun s) :=
    steered.trans ((PortSteps.notice _ (State.setSelector _ _)).after_idle rfl rfl rfl)
  rw [enterRun_eq]
  exact entered.then_idle (by simp) (by simp) (by simp)

theorem completeComputation_steps (x : Snapshot) (s : State) :
    PortSteps s (completeComputation x s) := by
  have entering : ∀ v, PortSteps s v →
      PortSteps s (if s.timebase.mode = .entering then enterRun v else v) := by
    intro v stored
    split
    · exact stored.trans (enterRun_steps v)
    · exact stored
  have published : PortSteps s (publish x s) := by
    unfold publish
    dsimp only
    refine entering _ ?_
    split <;> exact .idle rfl rfl rfl
  have arrived : PortSteps s (settle (if discards s x then s else publish x s)) := by
    refine PortSteps.settle ?_
    split
    · exact .refl s
    · exact published
  show PortSteps s (nextComputation (discards s x) _)
  rw [nextComputation_frame]
  exact arrived.then_idle rfl rfl rfl

theorem boundary_steps (s : State) : PortSteps s (boundary s) := by
  unfold boundary switchPlan
  dsimp only
  repeat' split
  · exact .refl s
  · generalize hv : setLiveBias _ _ = v
    have switched : PortSteps s v := by
      rw [← hv]
      exact .idle (by simp) (by simp) (by simp)
    exact (switched.trans (dropEntries_steps _ .plan v)).trans (.notice _ _)
  · exact .refl s

theorem lapsePins_steps (s : State) : PortSteps s (lapsePins s) := by
  unfold lapsePins
  refine PortSteps.trans (.idle ?_ ?_ ?_) (.notice _ _) <;> simp

end

/-! ### The effects of the requests -/

section
variable (t : Taken)

theorem effectReport_steps (b : ReportBody) (v : State) : PortSteps v (effectReport t b v) := by
  unfold effectReport
  split
  · exact acceptReport_steps _ b v
  · exact .refl v

theorem effectCall_steps (b : CallBody) (v : State) : PortSteps v (effectCall t b v) := by
  unfold effectCall
  split
  · exact (evaluate_steps _ (v.setPriority _)).after_idle rfl rfl rfl
  · exact .refl v

theorem effectCancel_steps (b : CancelBody) (v : State) : PortSteps v (effectCancel t b v) := by
  unfold effectCancel
  repeat' split
  · exact removeEntry_steps _ _ v
  · exact cutExtension_steps _ _ v
  · exact .refl v
  · exact .refl v

theorem effectStatus_steps (b : StatusBody) (v : State) : PortSteps v (effectStatus t b v) := by
  unfold effectStatus
  split
  · exact .cleared v
  · exact .refl v

theorem retainPlan_steps (p : Nat) (record : Fin 24 → RetentionRecord) (store : Store) (v : State) :
    PortSteps v (retainPlan p record (v.setStore store)) := by
  unfold retainPlan
  split <;> exact .idle rfl rfl rfl

theorem effectPlanCheck_steps (p : Nat) (v : State) : PortSteps v (effectPlanCheck t p v) := by
  unfold effectPlanCheck
  dsimp only
  split
  · exact .idle rfl rfl rfl
  · exact retainPlan_steps _ _ _ v

theorem effectGeometryHeadWrite_steps (h : GeometryHead) (v : State) :
    PortSteps v (effectGeometryHeadWrite t h v) :=
  (changeN_steps _ (startRetention _ (v.setStore _))).after_idle rfl rfl rfl

theorem effectGeometryCheck_steps (b : Unit) (v : State) : PortSteps v (effectGeometryCheck t b v) := by
  unfold effectGeometryCheck
  dsimp only
  split <;> exact .idle rfl rfl rfl

theorem effectSelectionWrite_steps (b : SelectionWrite) (v : State) :
    PortSteps v (effectSelectionWrite t b v) := by
  unfold effectSelectionWrite
  split <;> exact .idle rfl rfl rfl

theorem effectPinPlan_steps (p : Nat) (v : State) : PortSteps v (effectPinPlan t p v) := by
  unfold effectPinPlan
  split <;> exact .idle (by simp) (by simp) (by simp)

theorem effectPinBias_steps (n : Nat) (v : State) : PortSteps v (effectPinBias t n v) := by
  unfold effectPinBias
  split <;> exact .idle (by simp) (by simp) (by simp)

end

/-- The command of a kind serves it, and the effect of an accepted request is made of port steps. -/
theorem exec_commandOf_steps (k : RequestKind) :
    ∃ (α : Type) (parse : List Byte → Option α) (answer : Taken → α → State → Answer)
      (effect : Taken → α → State → State),
      (∀ s, exec (commandOf (some k)) s = .next (serve k parse answer effect s)) ∧
      ∀ t body v, PortSteps v (effect t body v) := by
  cases k with
  | report => exact ⟨_, _, _, _, fun _ => rfl, effectReport_steps⟩
  | priorityCall => exact ⟨_, _, _, _, fun _ => rfl, effectCall_steps⟩
  | priorityCancel => exact ⟨_, _, _, _, fun _ => rfl, effectCancel_steps⟩
  | readStatus => exact ⟨_, _, _, _, fun _ => rfl, effectStatus_steps⟩
  | readJunction | readBand | readPlanHead | readPlanGroup | readGeometryHead | readGeometryGroup
  | readSelection => exact ⟨_, _, _, _, fun _ => rfl, fun _ _ => .refl⟩
  | writePlanHead | writePlanGroup | erasePlan =>
    exact ⟨_, _, _, _, fun _ => rfl, fun _ _ v => retainPlan_steps _ _ _ v⟩
  | checkPlan => exact ⟨_, _, _, _, fun _ => rfl, effectPlanCheck_steps⟩
  | writeGeometryHead => exact ⟨_, _, _, _, fun _ => rfl, effectGeometryHeadWrite_steps⟩
  | writeGeometryGroup | resetUnit => exact ⟨_, _, _, _, fun _ => rfl, fun _ _ _ => .idle rfl rfl rfl⟩
  | checkGeometry => exact ⟨_, _, _, _, fun _ => rfl, effectGeometryCheck_steps⟩
  | writeSelection => exact ⟨_, _, _, _, fun _ => rfl, effectSelectionWrite_steps⟩
  | pinPlan => exact ⟨_, _, _, _, fun _ => rfl, effectPinPlan_steps⟩
  | pinBias => exact ⟨_, _, _, _, fun _ => rfl, effectPinBias_steps⟩
  | releaseHold => exact ⟨_, _, _, _, fun _ => rfl, fun _ => enterEntering_steps⟩
  | enterHold => exact ⟨_, _, _, _, fun _ => rfl, fun _ _ => holdEffects_steps⟩
  | resetEngine => exact ⟨_, _, _, _, fun _ => rfl, fun _ _ => engineReset_steps⟩

end Sys2Proof.Machine
end

section
/-! The bounds of both ports under every command (R149, R152 to R155, R157, R162, R163). -/

namespace Sys2Proof.Machine

open Sys2Proof

section
variable {s u v : State}

/-! ### The steps of effects and events -/

theorem PortsBounded.of_eq (h : PortsBounded s) (line : u.line = s.line) (centre : u.centre = s.centre) :
    PortsBounded u := by
  rwa [PortsBounded, line, centre]

/-- A command that touches the Line Port alone. -/
theorem PortsBounded.withLine (h : PortsBounded s) (line : u.line.Bounded) (centre : u.centre = s.centre) :
    PortsBounded u := ⟨line, centre ▸ h.2⟩

/-- A command that touches the Centre Port alone. -/
theorem PortsBounded.withCentre (h : PortsBounded s) (centre : u.centre.Bounded) (line : u.line = s.line) :
    PortsBounded u := ⟨line ▸ h.1, centre⟩

/-- A steer in flight keeps its loss count when it is marked (R161). -/
theorem emptySteers_bounded (h : s.line.Bounded) : (emptySteers s).line.Bounded := by
  have count : lineReplyCount (emptySteers s).line = lineReplyCount s.line := by
    rw [lineReplyCount_eq, (emptySteers_spoke s).replies, List.append_nil, ← lineReplyCount_eq]
  refine ⟨h.rx, count ▸ h.replies, List.nodup_nil, h.steerCredit, h.replyCredit, h.beatLosses,
    fun _ waits => absurd waits List.not_mem_nil, h.replyLosses, fun f flies => ?_, h.errors, h.drops,
    h.missed⟩
  obtain ⟨g, flew, rfl⟩ := Option.map_eq_some_iff.1 flies
  have losses := h.losses g flew
  split <;> exact losses

theorem emptyBeat_bounded (h : s.line.Bounded) : (emptyBeat s).line.Bounded :=
  { h with replies := h.replies, beatLosses := fun _ waits => nomatch waits }

theorem clearCounters_bounded (h : PortsBounded s) : PortsBounded (clearCounters s) :=
  ⟨{ h.1 with
      replies := h.1.replies, errors := rxCounters_zero_bounded, drops := Nat.zero_le _
      missed := Nat.zero_le _ },
    { h.2 with replies := h.2.replies, errors := rxCounters_zero_bounded }⟩

/-- Each step keeps the bounds. -/
theorem PortSteps.bounded (steps : PortSteps s u) (h : PortsBounded s) : PortsBounded u := by
  induction steps with
  | idle line centre _ => exact h.of_eq line centre
  | notice body s => exact h.withCentre (queueNotice_bounded body h.2) (by simp)
  | outcome o room => exact h.withLine (queueLineReply_bounded _ h.1 room) (by simp)
  | steer j a n s => exact h.withLine (queueSteer_bounded j a n h.1) (by simp)
  | beat s => exact h.withLine (queueBeat_bounded h.1) (by simp)
  | steersEmptied s => exact h.withLine (emptySteers_bounded h.1) (by simp)
  | beatEmptied s => exact h.withLine (emptyBeat_bounded h.1) (by simp)
  | cleared s => exact clearCounters_bounded h
  | trans _ _ first rest => exact rest (first h)

/-! ### Requests (R165, R166) -/

theorem takeFrame_bounded (p : Port) (h : PortsBounded s) : PortsBounded (takeFrame p s) := by
  have shorter : ∀ rx : List Frame, rx.length ≤ Config.rxPlaces → (rx.drop 1).length ≤ Config.rxPlaces :=
    fun rx => Nat.le_trans (List.drop_sublist 1 rx).length_le
  cases p with
  | line => exact ⟨{ h.1 with rx := shorter _ h.1.rx, replies := h.1.replies }, h.2⟩
  | centre => exact ⟨h.1, { h.2 with rx := shorter _ h.2.rx, replies := h.2.replies }⟩

/-- The handler takes a frame only where its reply has a place (R165). -/
theorem nextFrame_room {t : Taken} (next : nextFrame s = some t) :
    (t.port = .line → lineReplyCount s.line < Config.lineReplyPlaces) ∧
    (t.port = .centre → centreReplyCount s.centre < Config.centreReplyPlaces) := by
  have port := ((nextFrame_iff s t).1 next).1
  obtain ⟨running, free⟩ := open_of_nextPort port
  refine ⟨fun line => ?_, fun centre => ?_⟩
  · rw [line, nextPort_line_iff running free, lineServable_iff, ← lineReplyCount_eq] at port
    exact port.1.2
  · rw [centre, nextPort_centre_iff running free, centreServable_iff, ← centreReplyCount_eq] at port
    exact port.1.2

theorem answered_bounded {t : Taken} (next : nextFrame s = some t) (c : ReplyCode) (r : List Byte)
    (h : PortsBounded s) : PortsBounded (answered s t c r) := by
  obtain ⟨onLine, onCentre⟩ := nextFrame_room next
  have taken := takeFrame_bounded t.port h
  obtain ⟨_ | _, f, sender⟩ := t
  · exact taken.withLine (queueLineReply_bounded _ taken.1 (onLine rfl)) (by simp [answered, queueReply])
  · refine taken.withCentre (startCentre_bounded { taken.2 with replies := ?_ })
      (by simp [answered, queueReply])
    have room := onCentre rfl
    show (s.centre.replies ++ [_]).length + _ ≤ _
    rw [List.length_append, List.length_singleton, Nat.add_right_comm]
    exact room

/-- Every request command keeps the bounds. -/
theorem exec_commandOf_bounded (k : Option RequestKind) (done : exec (commandOf k) s = .next u)
    (h : PortsBounded s) : PortsBounded u := by
  cases k with
  | none =>
    obtain rfl := next_inj done
    unfold serveUnknown
    split
    · exact h
    · next t next =>
      split
      · exact answered_bounded next _ _ h
      · exact h
  | some k =>
    obtain ⟨_, parse, answer, effect, exec_eq, effects⟩ := exec_commandOf_steps k
    obtain rfl := next_inj ((exec_eq s).symm.trans done)
    obtain e | ⟨t, next, _, ⟨c, _, e⟩ | ⟨body, r, _, _, _, _, e⟩⟩ :=
      serve_cases (k := k) (parse := parse) (answer := answer) (effect := effect) (s := s) <;> rw [e]
    · exact h
    · exact answered_bounded next c [] h
    · exact (effects t body _).settle.bounded (answered_bounded next .ok r h)

/-! ### The corridor cycle, the pins and the resets -/

theorem restart_bounded (s : State) : PortsBounded (restart s) :=
  ⟨line_initial_bounded, centre_initial_bounded⟩

theorem startDecision_steps (s : State) : PortSteps s (startDecision s) := by
  unfold startDecision
  dsimp only
  split
  · exact (enterEntering_steps _ s).settle
  · exact .refl s

theorem hardwareReset_bounded (pins : Straps) (s : State) : PortsBounded (hardwareReset pins s) :=
  (startDecision_steps _).bounded (restart_bounded _)

theorem resetUnitNow_portsBounded (pins : Straps) (h : PortsBounded s) :
    PortsBounded (resetUnitNow pins s) := by
  unfold resetUnitNow
  repeat' split
  · exact h
  · exact hardwareReset_bounded pins s
  · exact (startDecision_steps _).bounded (restart_bounded s)

/-- The frames in flight are abandoned (R170). -/
theorem assertReset_bounded (h : PortsBounded s) : PortsBounded (assertReset s) := by
  refine ⟨{ h.1 with replies := ?_, losses := fun _ flies => nomatch flies },
    { h.2 with replies := ?_ }⟩
  · exact Nat.le_trans (Nat.add_le_add_left (Nat.zero_le _) _) h.1.replies
  · exact Nat.le_trans (Nat.add_le_add_left (Nat.zero_le _) _) h.2.replies

section
variable (s : State)

theorem cycleBoundary_steps : PortSteps s (cycleBoundary s) := by
  unfold cycleBoundary
  split
  · exact .settle ((boundary_steps (s.setDue _)).after_idle rfl rfl rfl)
  · exact .refl s

theorem localZero_steps (j : Junction) : PortSteps s (localZero j s) := by
  unfold localZero
  split
  · dsimp only
    generalize hv : setCycle _ j _ = v
    have zeroed : PortSteps s v := hv ▸ .idle rfl rfl rfl
    exact ((zeroed.trans (.steer j _ _ v)).trans (evaluate_steps j _)).settle
  · exact .refl s

theorem windowClose_steps (j : Junction) : PortSteps s (windowClose j s) := by
  unfold windowClose
  split
  · exact (closeWindow_steps j s).settle
  · exact .refl s

theorem beatNow_steps : PortSteps s (beatNow s) := by
  unfold beatNow
  split
  · exact (PortSteps.beat (s.setDue _)).after_idle rfl rfl rfl
  · exact .refl s

theorem selectorEvaluation_steps : PortSteps s (selectorEvaluation s) := by
  unfold selectorEvaluation
  split <;> exact .idle (by simp) (by simp) (by simp)

theorem pinLapse_steps : PortSteps s (pinLapse s) := by
  unfold pinLapse
  split
  · exact (lapsePins_steps s).settle
  · exact .refl s

theorem periodEnd_steps : PortSteps s (periodEnd s) := by
  unfold periodEnd
  dsimp only
  split
  · exact .settle ((forJunctions_steps periodEndFor_steps _ (s.setDue _)).after_idle rfl rfl rfl)
  · exact .refl s

theorem expireEntry_steps (j : Junction) (tag : Nat) : PortSteps s (expireEntry j tag s) := by
  unfold expireEntry
  repeat' split
  · exact removeEntry_steps _ _ s
  · exact .refl s
  · exact .refl s

theorem completeRetention_steps : PortSteps s (completeRetention s) := by
  unfold completeRetention
  split <;> exact .idle rfl rfl rfl

theorem computationDone_steps : PortSteps s (computationDone s) := by
  unfold computationDone
  split
  · exact .refl s
  · exact completeComputation_steps _ s

theorem tick_steps : PortSteps s (tick s) := by
  have clocks : PortSteps s (tickClocks s) := .idle (by simp [tickClocks]) (by simp [tickClocks]) rfl
  unfold tick
  repeat' split
  · exact .refl s
  · exact clocks.then_idle (by simp [tickRun]) (by simp [tickRun]) rfl
  · exact clocks

end

/-! ### The corridor line (R151, R156, R157) -/

theorem lineBusy_bounded (h : PortsBounded s) : PortsBounded (lineBusy s) := by
  unfold lineBusy
  split
  · exact ⟨{ h.1 with replies := h.1.replies }, h.2⟩
  · exact h

theorem lineRxFault_bounded (fault : RxFault) (h : PortsBounded s) : PortsBounded (lineRxFault fault s) :=
  ⟨{ h.1 with replies := h.1.replies, errors := RxCounters.raise_bounded fault h.1.errors }, h.2⟩

theorem centreRxFault_bounded (fault : RxFault) (h : PortsBounded s) :
    PortsBounded (centreRxFault fault s) :=
  ⟨h.1, { h.2 with replies := h.2.replies, errors := RxCounters.raise_bounded fault h.2.errors }⟩

theorem lineFree_bounded (chars : List Byte) (h : PortsBounded s) : PortsBounded (lineFree chars s) := by
  have gap : PortsBounded (gapFault s chars) := by
    unfold gapFault
    split
    · exact lineRxFault_bounded .framing h
    · exact h
  have free : PortsBounded ((gapFault s chars).setLine { (gapFault s chars).line with state := .free }) :=
    ⟨{ gap.1 with replies := gap.1.replies }, gap.2⟩
  unfold lineFree
  dsimp only
  split
  · exact h
  · generalize hv : (if s.line.state = .fault then queueNotice _ _ else _) = v
    have noticed : PortsBounded v := by
      rw [← hv]
      split
      · exact (PortSteps.notice _ _).bounded free
      · exact free
    exact noticed.withLine (startLine_bounded noticed.1) (by simp)

theorem lineFault_bounded (h : PortsBounded s) : PortsBounded (lineFault s) := by
  unfold lineFault
  split
  · exact (PortSteps.notice _ (s.setLine _)).bounded ⟨{ h.1 with replies := h.1.replies }, h.2⟩
  · exact h

/-- The line once the frame in flight has left it. -/
theorem flightEnded_bounded {l : Line} (h : l.Bounded) : { l with inFlight := none }.Bounded :=
  { h with
    replies := Nat.le_trans (Nat.add_le_add_left (Nat.zero_le _) _) h.replies
    losses := fun _ flies => nomatch flies }

theorem frameComplete_bounded (h : PortsBounded s) : PortsBounded (frameComplete s) := by
  unfold frameComplete
  split
  · exact h
  · next f _ =>
    have ended := flightEnded_bounded h.1
    refine ⟨?_, h.2⟩
    cases item : f.item with
    | beat _ => exact ended
    | steer _ =>
      exact { ended with
        replies := ended.replies, steerCredit := Nat.le_trans (Nat.sub_le _ _) h.1.steerCredit }
    | queued _ =>
      exact { ended with
        replies := ended.replies, replyCredit := Nat.le_trans (Nat.sub_le _ _) h.1.replyCredit }

/-- The sixteenth loss raises counters that saturate (R157). -/
theorem discardLost_bounded (item : LineItem) {l : Line} (h : l.Bounded) :
    (discardLost item l).Bounded := by
  cases item with
  | beat _ => exact { h with replies := h.replies, drops := bump_le _, missed := bump_le _ }
  | steer _ => exact { h with replies := h.replies, drops := bump_le _ }
  | queued _ => exact { h with replies := h.replies, drops := bump_le _ }

/-- A lost frame returns below the loss limit, a reply to the place it had (R154, R157). -/
theorem returnLost_bounded (item : LineItem) {losses : Nat} (below : losses < Config.lossLimit) {l : Line}
    (h : l.Bounded) (room : item.isReply = true → lineReplyCount l < Config.lineReplyPlaces) :
    (returnLost item losses l).Bounded := by
  unfold returnLost
  split
  · split
    · exact { h with replies := h.replies, missed := bump_le _ }
    · exact { h with replies := h.replies, beatLosses := fun _ waits => Option.some.inj waits ▸ below }
  · next st =>
    split
    · exact h
    · next apart =>
      have new : st.junction ∉ l.steers.map fun w => w.steer.junction := by
        simpa using apart
      exact { h with
        replies := h.replies
        steers := List.nodup_cons.2 ⟨new, h.steers⟩
        steerLosses := List.forall_mem_cons.2 ⟨below, h.steerLosses⟩ }
  · refine { h with replies := ?_, replyLosses := List.forall_mem_cons.2 ⟨below, h.replyLosses⟩ }
    have count := room rfl
    unfold lineReplyCount at count ⊢
    rw [List.length_cons, Nat.add_right_comm]
    exact count

theorem arbitrationLoss_bounded (h : PortsBounded s) : PortsBounded (arbitrationLoss s) := by
  unfold arbitrationLoss
  dsimp only
  split
  · exact h
  · next f flies =>
    have ended := flightEnded_bounded h.1
    split
    · exact ⟨ended, h.2⟩
    · split
      · exact ⟨discardLost_bounded _ ended, h.2⟩
      · next below =>
        refine ⟨returnLost_bounded _ (Nat.not_le.1 below) ended fun reply => ?_, h.2⟩
        have held := h.1.replies
        simp only [lineReplyCount, flies, Option.any_some, reply, Bool.toNat_true] at held
        exact held

/-! ### Reception (R152, R153, R162) -/

theorem lineReceive_bounded (chars : List Byte) (h : PortsBounded s) :
    PortsBounded (lineReceive chars s) := by
  have placed : ∀ f, PortsBounded (placeLineFrame f s) := by
    intro f
    unfold placeLineFrame
    split
    · next room =>
      exact ⟨{ h.1 with replies := h.1.replies, rx := by simpa using Nat.succ_le_of_lt room }, h.2⟩
    · exact lineRxFault_bounded _ h
  unfold lineReceive
  repeat' split
  · exact placed _
  · exact lineRxFault_bounded _ h
  · exact lineRxFault_bounded _ h
  all_goals exact h

theorem centreReceive_bounded (chars : List Byte) (h : PortsBounded s) :
    PortsBounded (centreReceive chars s) := by
  have placed : ∀ f, PortsBounded (placeCentreFrame f s) := by
    intro f
    unfold placeCentreFrame
    split
    · next room =>
      exact ⟨h.1, { h.2 with replies := h.2.replies, rx := by simpa using Nat.succ_le_of_lt room }⟩
    · exact centreRxFault_bounded _ h
  unfold centreReceive
  split
  · exact placed _
  · exact centreRxFault_bounded _ h
  · exact centreRxFault_bounded _ h
  all_goals exact h

theorem lineDiscard_bounded (fault : RxFault) (chars : List Byte) (h : PortsBounded s) :
    PortsBounded (lineDiscard fault chars s) := by
  unfold lineDiscard
  split
  · exact lineRxFault_bounded fault h
  · exact h

theorem centreDiscard_bounded (fault : RxFault) (chars : List Byte) (h : PortsBounded s) :
    PortsBounded (centreDiscard fault chars s) := by
  unfold centreDiscard
  split
  · exact centreRxFault_bounded fault h
  · exact h

/-- The end of a frame on the centre link gives its place free (R163). -/
theorem centreComplete_bounded (h : PortsBounded s) : PortsBounded (centreComplete s) := by
  unfold centreComplete
  split
  · exact h
  · refine h.withCentre (startCentre_bounded { h.2 with replies := ?_ }) (by simp)
    exact Nat.le_trans (Nat.add_le_add_left (Nat.zero_le _) _) h.2.replies

theorem whenRunning_portsBounded {act : State → State} (h : PortsBounded s) (kept : PortsBounded (act s)) :
    PortsBounded (whenRunning act s) := by
  unfold whenRunning
  split
  · exact h
  · exact kept

end

/-- Settles O55: requests by their answers and effects, events by their steps, the rest one by one. -/
theorem portsBoundedKept : Obligations.PortsBoundedKept := by
  intro c s u done h
  have event : ∀ {act : State → State}, whenRunning act s = u → PortsBounded (act s) → PortsBounded u :=
    fun is kept => is ▸ whenRunning_portsBounded h kept
  cases c with
  | report => exact exec_commandOf_bounded (some .report) done h
  | priorityCall => exact exec_commandOf_bounded (some .priorityCall) done h
  | priorityCancel => exact exec_commandOf_bounded (some .priorityCancel) done h
  | readStatus => exact exec_commandOf_bounded (some .readStatus) done h
  | readJunction => exact exec_commandOf_bounded (some .readJunction) done h
  | readBand => exact exec_commandOf_bounded (some .readBand) done h
  | readPlanHead => exact exec_commandOf_bounded (some .readPlanHead) done h
  | readPlanGroup => exact exec_commandOf_bounded (some .readPlanGroup) done h
  | writePlanHead => exact exec_commandOf_bounded (some .writePlanHead) done h
  | writePlanGroup => exact exec_commandOf_bounded (some .writePlanGroup) done h
  | erasePlan => exact exec_commandOf_bounded (some .erasePlan) done h
  | checkPlan => exact exec_commandOf_bounded (some .checkPlan) done h
  | readGeometryHead => exact exec_commandOf_bounded (some .readGeometryHead) done h
  | readGeometryGroup => exact exec_commandOf_bounded (some .readGeometryGroup) done h
  | writeGeometryHead => exact exec_commandOf_bounded (some .writeGeometryHead) done h
  | writeGeometryGroup => exact exec_commandOf_bounded (some .writeGeometryGroup) done h
  | checkGeometry => exact exec_commandOf_bounded (some .checkGeometry) done h
  | readSelection => exact exec_commandOf_bounded (some .readSelection) done h
  | writeSelection => exact exec_commandOf_bounded (some .writeSelection) done h
  | pinPlan => exact exec_commandOf_bounded (some .pinPlan) done h
  | pinBias => exact exec_commandOf_bounded (some .pinBias) done h
  | releaseHold => exact exec_commandOf_bounded (some .releaseHold) done h
  | enterHold => exact exec_commandOf_bounded (some .enterHold) done h
  | resetUnit => exact exec_commandOf_bounded (some .resetUnit) done h
  | resetEngine => exact exec_commandOf_bounded (some .resetEngine) done h
  | unknownKind => exact exec_commandOf_bounded none done h
  | resetNAssert => exact next_inj done ▸ assertReset_bounded h
  | hardwareReset pins => exact next_inj done ▸ hardwareReset_bounded pins s
  | resetUnitTakesEffect pins => exact event (next_inj done) (resetUnitNow_portsBounded pins h)
  | cycleBoundary => exact event (next_inj done) ((cycleBoundary_steps s).bounded h)
  | localZero j =>
    obtain ⟨i, is⟩ := next_of_junction (act := localZero) done
    exact event is.symm ((localZero_steps s i).bounded h)
  | windowClose j =>
    obtain ⟨i, is⟩ := next_of_junction (act := windowClose) done
    exact event is.symm ((windowClose_steps s i).bounded h)
  | beatDue => exact event (next_inj done) ((beatNow_steps s).bounded h)
  | evaluation => exact event (next_inj done) ((selectorEvaluation_steps s).bounded h)
  | pinLapse => exact event (next_inj done) ((pinLapse_steps s).bounded h)
  | periodEnd => exact event (next_inj done) ((periodEnd_steps s).bounded h)
  | priorityExpiry j tag =>
    obtain ⟨i, is⟩ := next_of_junction (act := fun j => expireEntry j tag) done
    exact event is.symm ((expireEntry_steps s i tag).bounded h)
  | retentionComplete => exact event (next_inj done) ((completeRetention_steps s).bounded h)
  | computationComplete => exact event (next_inj done) ((computationDone_steps s).bounded h)
  | decisecondTick => exact event (next_inj done) ((tick_steps s).bounded h)
  | lineBusy => exact event (next_inj done) (lineBusy_bounded h)
  | lineFree chars => exact event (next_inj done) (lineFree_bounded chars h)
  | lineFault => exact event (next_inj done) (lineFault_bounded h)
  | frameComplete => exact event (next_inj done) (frameComplete_bounded h)
  | arbitrationLoss => exact event (next_inj done) (arbitrationLoss_bounded h)
  | lineFrameReceived chars => exact event (next_inj done) (lineReceive_bounded chars h)
  | lineFrameDiscarded fault chars => exact event (next_inj done) (lineDiscard_bounded fault chars h)
  | centreFrameReceived chars => exact event (next_inj done) (centreReceive_bounded chars h)
  | centreFrameDiscarded fault chars => exact event (next_inj done) (centreDiscard_bounded fault chars h)
  | centreFrameComplete => exact event (next_inj done) (centreComplete_bounded h)

end Sys2Proof.Machine
end

section
/-! Requests and frames read back from their characters (R152, R153, R159). -/

namespace Sys2Proof.Machine

open Sys2Proof

/-! ### Values read back from their characters (R159) -/

/-- Two characters carry a value below 65,536. -/
theorem val2_char1 {v : Nat} (small : v < 65536) : val2 (char1 v) (char1 (v / 256)) = v := by
  simp only [val2, char1, BitVec.toNat_ofNat]
  omega

/-- Two characters carry a signed value in two's complement. -/
theorem valSigned_char1 {v : Int} (low : -32768 ≤ v) (high : v < 32768) :
    valSigned (char1 (v % 65536).toNat) (char1 ((v % 65536).toNat / 256)) = v := by
  rw [valSigned, val2_char1 (by omega)]
  split <;> omega

/-- The three low bits of a flags character are its flags. -/
theorem flagBit_flags3 (a b c : Bool) :
    flagBit (flags3 a b c) 0 = a ∧ flagBit (flags3 a b c) 1 = b ∧ flagBit (flags3 a b c) 2 = c := by
  revert a b c
  decide

theorem directionOf_code (d : Direction) : directionOf (char1 d.code) = some d := by
  cases d <;> rfl

theorem dominanceOf_code (d : Dominance) : dominanceOf (char1 d.code) = some d := by
  cases d <;> rfl

theorem yesNoOf_yesNo (b : Bool) : yesNoOf (char1 (yesNo b)) = some b := by
  cases b <;> rfl

theorem optionOf_toNat (b : Bool) : optionOf (char1 b.toNat) = some b := by
  cases b <;> rfl

theorem kindOf_code (k : RequestKind) : kindOf (char1 k.code) = some k := by
  cases k <;> rfl

theorem fits1_iff (v : Nat) : fits1 v = true ↔ v < 256 := decide_eq_true_iff

theorem fits2_iff (v : Nat) : fits2 v = true ↔ v < 65536 := decide_eq_true_iff

/-! ### Records read back from their characters (R159) -/

/-- A plan junction entry is read back from its five characters. -/
theorem planEntryOf_chars {e : PlanEntry} (h : e.fits = true) :
    planEntryOf (char1 e.share) (char1 (e.share / 256)) (char1 (e.trim % 65536).toNat)
      (char1 ((e.trim % 65536).toNat / 256)) (flags3 e.follow e.priIn e.priOut) = e := by
  simp only [PlanEntry.fits, fitsSigned, Bool.and_eq_true, fits2_iff, decide_eq_true_eq] at h
  obtain ⟨share, low, high⟩ := h
  obtain ⟨follow, priIn, priOut⟩ := flagBit_flags3 e.follow e.priIn e.priOut
  simp only [planEntryOf, val2_char1 share, valSigned_char1 low high, follow, priIn, priOut]

/-- A geometry junction entry is read back from its three characters. -/
theorem geometryEntryOf_chars {e : GeometryEntry} (h : e.fits = true) :
    geometryEntryOf (char1 e.address) (char1 e.position) (char1 (e.position / 256)) = e := by
  simp only [GeometryEntry.fits, Bool.and_eq_true, fits1_iff, fits2_iff] at h
  simp only [geometryEntryOf, char1_toNat h.1, val2_char1 h.2]

/-- Four entries in their order make up the group. -/
theorem vector_four {α : Type} (v : Vector α 4) : #v[v[0], v[1], v[2], v[3]] = v := by
  ext i hi
  match i with
  | 0 | 1 | 2 | 3 => rfl

theorem parsePlanHeadWrite_chars {n : Nat} {h : PlanHead} (plan : n < 256) (fits : h.fits = true) :
    parsePlanHeadWrite (char1 n :: h.chars) = some ⟨n, h⟩ := by
  simp only [PlanHead.fits, Bool.and_eq_true, fits1_iff, fits2_iff] at fits
  obtain ⟨⟨⟨⟨⟨⟨⟨⟨⟨⟨⟨⟨⟨⟨⟨c, p⟩, anchor⟩, vIn⟩, vOut⟩, nominal⟩, least⟩, most⟩, gMin⟩, sMin⟩, dwell⟩, short⟩,
    eMax⟩, xMax⟩, lockout⟩, gate⟩ := fits
  simp [parsePlanHeadWrite, PlanHead.chars, char2, val2_char1, char1_toNat, *]

theorem parseGeometryHead_chars {h : GeometryHead} (fits : h.fits = true) :
    parseGeometryHead h.chars = some h := by
  simp only [GeometryHead.fits, Bool.and_eq_true, fits1_iff, fits2_iff] at fits
  obtain ⟨⟨⟨⟨⟨⟨⟨⟨⟨⟨⟨⟨⟨n, period⟩, limit⟩, u1⟩, u2⟩, u3⟩, d1⟩, d2⟩, d3⟩, start⟩, interval⟩, lapse⟩, expiry⟩,
    holdOff⟩ := fits
  simp [parseGeometryHead, GeometryHead.chars, char2, val2_char1, char1_toNat, *]

theorem parseSelection_chars {i : Nat} {e : SelectionEntry} (index : i < 256) (fits : e.fits = true) :
    parseSelection (char1 i :: e.chars) = some ⟨i, e⟩ := by
  simp only [SelectionEntry.fits, Bool.and_eq_true, fits1_iff, fits2_iff] at fits
  obtain ⟨⟨⟨plan, low⟩, high⟩, persistence⟩ := fits
  simp [parseSelection, SelectionEntry.chars, char2, yesNoOf_yesNo, dominanceOf_code, val2_char1,
    char1_toNat, *]

/-! ### Requests (R159) -/

/-- The payload of a request whose fields fit their characters is read back as the request. -/
theorem parseRequest_payload {r : Request} (fits : r.wellFormed = true) :
    parseRequest r.kind r.payload = some r := by
  cases r with
  | report b =>
    simp only [Request.wellFormed, Bool.and_eq_true, fits1_iff, fits2_iff] at fits
    obtain ⟨⟨⟨inOccupancy, outOccupancy⟩, inVolume⟩, outVolume⟩ := fits
    simp [parseRequest, Request.kind, Request.payload, parseReport, char2, val2_char1, char1_toNat,
      flagBit_flags3, *]
  | priorityCall b =>
    simp only [Request.wellFormed, Bool.and_eq_true, fits1_iff, fits2_iff] at fits
    obtain ⟨⟨junction, tag⟩, eta⟩ := fits
    simp [parseRequest, Request.kind, Request.payload, parseCall, char2, directionOf_code, val2_char1,
      char1_toNat, *]
  | priorityCancel b =>
    simp only [Request.wellFormed, Bool.and_eq_true, fits1_iff, fits2_iff] at fits
    simp [parseRequest, Request.kind, Request.payload, parseCancel, char2, val2_char1, char1_toNat, fits]
  | readStatus b =>
    simp only [Request.wellFormed, fits1_iff] at fits
    simp [parseRequest, Request.kind, Request.payload, parseStatus, optionOf_toNat, char1_toNat fits]
  | readJunction b | readPlanHead b | readGeometryGroup b | readSelection b =>
    simp only [Request.wellFormed, Bool.and_eq_true, fits1_iff] at fits
    simp [parseRequest, Request.kind, Request.payload, parseIndexed, char1_toNat, fits]
  | readBand n | erasePlan n | checkPlan n | readGeometryHead n | pinPlan n | pinBias n | releaseHold n =>
    simp only [Request.wellFormed, fits1_iff] at fits
    simp [parseRequest, Request.kind, Request.payload, parseOne, char1_toNat fits]
  | writePlanHead b =>
    simp only [Request.wellFormed, Bool.and_eq_true, fits1_iff] at fits
    simp [parseRequest, Request.kind, Request.payload, parsePlanHeadWrite_chars fits.1 fits.2]
  | readPlanGroup b =>
    simp only [Request.wellFormed, Bool.and_eq_true, fits1_iff] at fits
    obtain ⟨⟨plan, group⟩, page⟩ := fits
    simp [parseRequest, Request.kind, Request.payload, parsePlanGroupRead, char1_toNat, *]
  | writePlanGroup b =>
    simp only [Request.wellFormed, Bool.and_eq_true, fits1_iff] at fits
    obtain ⟨⟨⟨⟨⟨plan, group⟩, e0⟩, e1⟩, e2⟩, e3⟩ := fits
    simp [parseRequest, Request.kind, Request.payload, parsePlanGroupWrite, PlanEntry.chars, charSigned,
      char2, planEntryOf_chars, char1_toNat, vector_four, *]
  | writeGeometryHead h =>
    simp [parseRequest, Request.kind, Request.payload, parseGeometryHead_chars fits]
  | writeGeometryGroup b =>
    simp only [Request.wellFormed, Bool.and_eq_true, fits1_iff] at fits
    obtain ⟨⟨⟨⟨group, e0⟩, e1⟩, e2⟩, e3⟩ := fits
    simp [parseRequest, Request.kind, Request.payload, parseGeometryGroup, GeometryEntry.chars, char2,
      geometryEntryOf_chars, char1_toNat, vector_four, *]
  | writeSelection b =>
    simp only [Request.wellFormed, Bool.and_eq_true, fits1_iff] at fits
    simp [parseRequest, Request.kind, Request.payload, parseSelection_chars fits.1 fits.2]
  | resetUnit relatch =>
    simp [parseRequest, Request.kind, Request.payload, parseOption, optionOf_toNat]
  | checkGeometry | enterHold | resetEngine => rfl

/-- The payload of a request has the length of its kind. -/
theorem payload_length (r : Request) : r.payload.length = r.kind.payloadLength := by
  cases r <;> rfl

/-- Settles O4: each kind's parser reads its own payload back. -/
theorem requestPayloadsRoundTrip : Obligations.RequestPayloadsRoundTrip := fun r fits =>
  ⟨parseRequest_payload fits, payload_length r, kindOf_code r.kind⟩

/-! ### Frames (R152, R153) -/

/-- A length character of at most 24 that promises more characters than follow. -/
theorem assemble_incomplete {dest src kind seq len : Byte} {rest : List Byte} (fits : len.toNat ≤ 24)
    (fewer : rest.length < len.toNat + 2) :
    assemble (dest :: src :: kind :: seq :: len :: rest) = .incomplete := by
  simp [assemble, maxPayload, Nat.not_lt.2 fits, fewer]

/-- A beginning of a frame is incomplete: its envelope is not whole, or characters are missing behind it. -/
theorem assemble_take {f : Frame} (short : f.payload.length ≤ 24) {n : Nat} (cut : n < f.chars.length) :
    assemble (f.chars.take n) = .incomplete := by
  have length : (char1 f.payload.length).toNat = f.payload.length := char1_toNat (by omega)
  match n with
  | 0 | 1 | 2 | 3 | 4 => rfl
  | m + 5 =>
    refine assemble_incomplete (length.le.trans short) ?_
    simp only [Frame.chars, Frame.body, List.length_append, List.length_cons, char2_length] at cut
    rw [length, List.length_take]
    omega

/-- Settles O5: the whole frame, the wrong check word, the beginning and the long length. -/
theorem framesRoundTrip : Obligations.FramesRoundTrip := by
  refine ⟨fun f short => ⟨assemble_chars short, fun _ _ => assemble_wrongCheck short,
    fun _ => assemble_take short⟩, fun dest src kind seq len long => ?_⟩
  simp [assemble, maxPayload, long]

end Sys2Proof.Machine
end

section
/-! The line state under the levels of the line, and the frame that leaves the line (R151, R156 to R158). -/

namespace Sys2Proof.Machine

open Sys2Proof

section
variable {s : State}

/-! ### The line state (R151) -/

theorem exec_lineBusy (running : s.inReset = false) : exec .lineBusy s = .next { s with
    line := { s.line with state := if s.line.state = .free then .busy else s.line.state } } := by
  refine congrArg Host.Outcome.next ((whenRunning_running lineBusy running).trans ?_)
  unfold lineBusy
  split
  · rfl
  · rfl

/-- After too long a dominant level the line is in FAULT, with a notice. -/
theorem exec_lineFault_busy (running : s.inReset = false) (busy : s.line.state = .busy) :
    exec .lineFault s =
      .next (queueNotice (.lineState .fault) (s.setLine { s.line with state := .fault })) :=
  congrArg Host.Outcome.next ((whenRunning_running lineFault running).trans (if_pos busy))

/-- A notice behind a change of the Line Port that serves nothing. -/
theorem queueNotice_noticedBehind {v : State} (body : NoticeBody) (handler : v.handler = s.handler)
    (rx : v.line.rx = s.line.rx) (centre : v.centre = s.centre) :
    NothingServed s (queueNotice body v) ∧ CentreNoticed s (queueNotice body v) [body] := by
  have spoke := queueNotice_spoke body v
  refine ⟨⟨spoke.handler.trans handler, spoke.rx.trans rx, ?_, ?_⟩, ?_, ?_⟩
  · rw [spoke.centreRx, centre]
  · rw [spoke.centreReplies, centre]
  · rw [spoke.centreErrors, centre]
  · exact (NoticesQueued.refl centre).trans spoke.notices

/-- The gap counts a framing fault for a frame that the unit takes and finds cut short, and for no other. -/
theorem gapFault_line (s : State) (cut : List Byte) : ∃ errors,
    gapFault s cut = s.setLine { s.line with errors } ∧
    (Takes s cut ∧ assemble cut = .incomplete → errors = counted s.line.errors .framing) ∧
    (¬(Takes s cut ∧ assemble cut = .incomplete) → errors = s.line.errors) := by
  have test : (takesFrame s cut && decide (assemble cut = .incomplete)) = true ↔
      Takes s cut ∧ assemble cut = .incomplete := by
    rw [Bool.and_eq_true, takesFrame_iff, decide_eq_true_iff]
  unfold gapFault
  split
  · next short =>
    exact ⟨_, rfl, fun _ => RxCounters.raise_counted _ _, fun other => absurd (test.1 short) other⟩
  · next other => exact ⟨_, rfl, fun short => absurd (test.2 short) other, fun _ => rfl⟩

/-- The line as it becomes FREE, before a frame starts on it. -/
def lineFreed (cut : List Byte) (s : State) : State :=
  let freed := (gapFault s cut).setLine { (gapFault s cut).line with state := .free }
  if s.line.state = .fault then queueNotice (.lineState .free) freed else freed

theorem exec_lineFree (running : s.inReset = false) (cut : List Byte) (closed : s.line.state ≠ .free) :
    exec (.lineFree cut) s = .next (startLine (lineFreed cut s)) :=
  congrArg Host.Outcome.next ((whenRunning_running (lineFree cut) running).trans (if_neg closed))

/-- The line that becomes FREE changes in its line state and its framing count, and out of FAULT with a
notice. -/
theorem lineFreed_eq (cut : List Byte) (s : State) : ∃ errors,
    lineFreed cut s = (if s.line.state = .fault then
      queueNotice (.lineState .free) (s.setLine { s.line with state := .free, errors })
      else s.setLine { s.line with state := .free, errors }) ∧
    (Takes s cut ∧ assemble cut = .incomplete → errors = counted s.line.errors .framing) ∧
    (¬(Takes s cut ∧ assemble cut = .incomplete) → errors = s.line.errors) := by
  obtain ⟨errors, gap, counts, stays⟩ := gapFault_line s cut
  refine ⟨errors, ?_, counts, stays⟩
  unfold lineFreed
  rw [gap]
  rfl

/-- Starting a frame serves nothing and gives no notice. -/
theorem startLine_noticed {v : State} {bodies : List NoticeBody}
    (h : NothingServed s v ∧ CentreNoticed s v bodies) :
    NothingServed s (startLine v) ∧ CentreNoticed s (startLine v) bodies := by
  simpa [NothingServed, CentreNoticed, NoticesQueued] using h

end

/-- Settles O50: each event by the states that it finds, the gap by the frame that it cuts short. -/
theorem lineStateFollowsLevels : Obligations.LineStateFollowsLevels := by
  intro s running
  refine ⟨exec_lineBusy running, fun other => ?_, fun busy => ?_, fun cut free => ?_, fun cut closed => ?_⟩
  · exact next_idle (if_neg other)
  · obtain ⟨served, noticed⟩ := queueNotice_noticedBehind (s := s)
      (v := s.setLine { s.line with state := .fault }) (.lineState .fault) rfl rfl rfl
    refine ⟨_, exec_lineFault_busy running busy, ?_, served, noticed⟩
    apply State.ext <;> simp
  · exact next_idle (if_pos free)
  · obtain ⟨errors, freed, counts, stays⟩ := lineFreed_eq cut s
    have line : (lineFreed cut s).line = { s.line with state := .free, errors } := by
      rw [freed]
      split <;> simp
    obtain ⟨state, rx, errs, drops, missed⟩ := startLine_line (lineFreed cut s)
    obtain ⟨beats, steers, replies⟩ := startLine_holds (lineFreed cut s)
    have credits := startLine_credits (lineFreed cut s)
    simp only [line] at state rx errs drops missed beats steers replies credits
    refine ⟨_, exec_lineFree running cut closed, ?_, state, fun short => ?_, fun other => ?_, rx, beats,
      steers, replies, missed, drops, credits, fun busy => ?_, fun fault => startLine_noticed ?_⟩
    · rw [freed]
      split <;> apply State.ext <;> simp
    · exact errs.trans (counts short)
    · exact errs.trans (stays other)
    · simp [freed, busy]
    · rw [freed, if_pos fault]
      exact queueNotice_noticedBehind _ rfl rfl rfl

/-! ### The frame that leaves the line (R156 to R158) -/

section
variable {s : State} {f : InFlight}

theorem frameComplete_flight (flies : s.line.inFlight = some f) :
    frameComplete s = s.setLine (spendCredit f.item { s.line with inFlight := none }) := by
  simp [frameComplete, flies]

/-- A steer whose queue was emptied under it is discarded without a count (R161). -/
theorem arbitrationLoss_orphaned (flies : s.line.inFlight = some f) (orphaned : f.orphaned = true) :
    arbitrationLoss s = s.setLine { s.line with inFlight := none } := by
  simp [arbitrationLoss, flies, orphaned]

/-- The sixteenth loss discards the frame. -/
theorem arbitrationLoss_last (flies : s.line.inFlight = some f) (owned : f.orphaned = false)
    (last : 15 ≤ f.losses) :
    arbitrationLoss s = s.setLine (discardLost f.item { s.line with inFlight := none }) := by
  simp [arbitrationLoss, flies, owned, last, Config.lossLimit]

/-- A loss before the sixteenth returns the frame with its count. -/
theorem arbitrationLoss_returns (flies : s.line.inFlight = some f) (owned : f.orphaned = false)
    (below : f.losses < 15) :
    arbitrationLoss s =
      s.setLine (returnLost f.item (f.losses + 1) { s.line with inFlight := none }) := by
  simp [arbitrationLoss, flies, owned, below, Config.lossLimit]

end

/-- Settles O52: the completion and the losses of a beat, a steer and a frame of the REPLY queue. -/
theorem frameLeavesTheLine : Obligations.FrameLeavesTheLine := by
  intro s f running flies l becomes missed drops
  have completes {l' : Line} (h : spendCredit f.item l = l') : becomes .frameComplete l' :=
    congrArg Host.Outcome.next ((whenRunning_running frameComplete running).trans
      ((frameComplete_flight flies).trans (congrArg s.setLine h)))
  have loses {l' : Line} (h : arbitrationLoss s = s.setLine l') : becomes .arbitrationLoss l' :=
    congrArg Host.Outcome.next ((whenRunning_running arbitrationLoss running).trans h)
  have discarded {l' : Line} (owned : f.orphaned = false) (last : 15 ≤ f.losses)
      (h : discardLost f.item l = l') : becomes .arbitrationLoss l' :=
    loses ((arbitrationLoss_last flies owned last).trans (congrArg s.setLine h))
  have returned {l' : Line} (owned : f.orphaned = false) (below : f.losses < 15)
      (h : returnLost f.item (f.losses + 1) l = l') : becomes .arbitrationLoss l' :=
    loses ((arbitrationLoss_returns flies owned below).trans (congrArg s.setLine h))
  refine ⟨fun orphaned => loses (arbitrationLoss_orphaned flies orphaned), ?_⟩
  cases item : f.item with
  | beat seq =>
    rw [item] at completes discarded returned
    exact ⟨completes rfl, fun owned last => discarded owned last rfl,
      fun owned below empty => returned owned below (by simp [returnLost, l, empty]),
      fun owned below waits => returned owned below
        (if_pos (Option.isSome_iff_ne_none.2 waits))⟩
  | steer st =>
    rw [item] at completes discarded returned
    refine ⟨completes rfl, fun owned last => discarded owned last rfl,
      fun owned below apart => returned owned below (if_neg ?_),
      fun owned below waits => returned owned below (if_pos ?_)⟩
    · simpa using apart
    · simpa using waits
  | queued reply =>
    rw [item] at completes discarded returned
    exact ⟨completes rfl, fun owned last => discarded owned last rfl,
      fun owned below => returned owned below rfl⟩

end Sys2Proof.Machine
end

section
/-! Each frame taken is answered with one reply, and what its effect places behind the reply (R155, R163,
R165, R166). -/

namespace Sys2Proof.Machine

open Sys2Proof

section
variable {s u v : State}

/-! ### What the steps leave of the replies and the frames in flight -/

/-- Only OUTCOME frames were placed behind the replies of the line, and the receive queues, the centre's
replies and the pointer stay. -/
structure OutcomesFollow (s u : State) (outcomes : List ReplyItem) : Prop where
  placed   : ∀ o ∈ outcomes, ∃ f, o = ReplyItem.outcome f
  line     : lineReplies u.line = lineReplies s.line ++ outcomes
  centre   : centreReplies u.centre = centreReplies s.centre
  received : ∀ p, receiveQueue u p = receiveQueue s p
  served   : u.handler.served = s.handler.served

/-- An effect that tells the line OUTCOME frames alone. -/
theorem Told.outcomesFollow {bodies : List NoticeBody} {outs : List ReplyItem} (told : Told s u outs bodies)
    (placed : ∀ o ∈ outs, ∃ f, o = ReplyItem.outcome f) : OutcomesFollow s u outs := by
  refine ⟨placed, told.replies, told.centreReplies, fun p => ?_, by rw [told.handler]⟩
  cases p with
  | line => exact told.rx
  | centre => exact told.centreRx

theorem OutcomesFollow.trans {o o' : List ReplyItem} (h : OutcomesFollow s v o)
    (h' : OutcomesFollow v u o') : OutcomesFollow s u (o ++ o') where
  placed x hx := (List.mem_append.1 hx).elim (h.placed x) (h'.placed x)
  line := by rw [h'.line, h.line, List.append_assoc]
  centre := h'.centre.trans h.centre
  received p := (h'.received p).trans (h.received p)
  served := h'.served.trans h.served

/-- Steps of effects place OUTCOME frames and no reply. -/
theorem PortSteps.outcomesFollow (steps : PortSteps s u) : ∃ outcomes, OutcomesFollow s u outcomes := by
  have silent {s u : State} {bodies : List NoticeBody} (told : Told s u [] bodies) :
      ∃ outcomes, OutcomesFollow s u outcomes :=
    ⟨[], told.outcomesFollow fun _ placed => absurd placed List.not_mem_nil⟩
  induction steps with
  | idle line centre served =>
    refine ⟨[], ⟨fun _ placed => absurd placed List.not_mem_nil, ?_, ?_, fun p => ?_, served⟩⟩
    · rw [line, List.append_nil]
    · rw [centre]
    · cases p <;> simp [receiveQueue, line, centre]
  | notice body s => exact silent (queueNotice_spoke body s).told
  | outcome o room =>
    exact ⟨_, (queueLineReply_spoke (.outcome o) _).told.outcomesFollow fun _ placed =>
      ⟨o, List.mem_singleton.1 placed⟩⟩
  | steer j a n s => exact silent (queueSteer_spoke j a n s).told
  | beat s => exact silent (queueBeat_told s)
  | steersEmptied s => exact silent (emptySteers_spoke s).told
  | beatEmptied s => exact silent (emptyBeat_told s)
  | cleared s =>
    refine ⟨[], ⟨fun _ placed => absurd placed List.not_mem_nil, ?_, rfl, fun p => ?_, rfl⟩⟩
    · exact (List.append_nil _).symm
    · cases p <;> rfl
  | trans _ _ first rest =>
    obtain ⟨o, ho⟩ := first
    obtain ⟨o', ho'⟩ := rest
    exact ⟨o ++ o', ho.trans ho'⟩

/-- A frame of the REPLY queue in flight on the line flies on. -/
theorem PortSteps.replyFlies (steps : PortSteps s u) {f : InFlight} {item : ReplyItem}
    (flies : s.line.inFlight = some f) (reply : f.item = .queued item) : u.line.inFlight = some f := by
  induction steps with
  | idle line _ _ => rwa [line]
  | notice body s => simpa using flies
  | outcome o room => exact (queueLineReply_beatWaits _ _).busy f flies
  | steer j a n s => exact (startLine_beatWaits (s.setLine _)).busy f flies
  | beat s => exact (queueBeat_flightKept s).busy f flies
  | steersEmptied s => exact ((emptySteers_marked s).1 f flies).2 fun st steer => by simp [reply] at steer
  | beatEmptied s => exact flies
  | cleared s => exact flies
  | trans _ _ first rest => exact rest (first flies)

/-- The frame in flight on the centre link flies on. -/
theorem PortSteps.sends (steps : PortSteps s u) {x : CentreSending} (sent : s.centre.sending = some x) :
    u.centre.sending = some x := by
  induction steps with
  | idle _ centre _ => rwa [centre]
  | notice body s => simp [queueNotice, startCentre, sent]
  | trans _ _ first rest => exact rest (first sent)
  | cleared s => exact sent
  | _ => simpa using sent

/-! ### The answer (R155, R163, R165, R166) -/

/-- A frame of the REPLY queue that alone waits on an open line starts, whatever the credit. -/
theorem queueLineReply_started (item : ReplyItem) (free : s.line.state = .free)
    (idle : s.line.inFlight = none) (noBeat : s.line.beat = none) (noSteer : s.line.steers = [])
    (noReply : s.line.replies = []) : Started s (queueLineReply item s) (.queued item) := by
  unfold queueLineReply
  generalize placed : s.setLine _ = v
  have waits : v.line.replies = [{ item, losses := 0 }] := by simp [← placed, noReply]
  obtain ⟨free', idle', noBeat', noSteer'⟩ : v.line.state = .free ∧ v.line.inFlight = none ∧
      v.line.beat = none ∧ v.line.steers = [] := by
    rw [← placed]
    exact ⟨free, idle, noBeat, noSteer⟩
  have launched : ∃ l, startLine v = launch v l (.queued item) 0 := by
    rcases Nat.eq_zero_or_pos v.line.replyCredit with spent | credit
    · exact ⟨_, startLine_refilled_reply idle' free' noBeat' noSteer' waits spent⟩
    · exact ⟨_, startLine_reply idle' free' noBeat' (.inl noSteer') waits credit⟩
  obtain ⟨l, started⟩ := launched
  rw [started, ← placed, launch_setLine]
  exact launch_started s l _

variable {t : Taken}

/-- A reply on an open line on which nothing waits starts at once. -/
theorem answered_started (port : t.port = .line) (c : ReplyCode) (r : List Byte)
    (free : s.line.state = .free) (idle : s.line.inFlight = none) (noBeat : s.line.beat = none)
    (noSteer : s.line.steers = []) (noReply : s.line.replies = []) :
    Started s (answered s t c r) (.queued (replyTo t c r)) := by
  have answer : answered s t c r = queueLineReply (replyTo t c r) (takeFrame .line s) := by
    rw [answered, port]
    rfl
  rw [answer]
  exact queueLineReply_started (s := takeFrame .line s) _ free idle noBeat noSteer noReply

/-- A reply on an idle centre link on which no reply waits starts at once. -/
theorem answered_sending (port : t.port = .centre) (c : ReplyCode) (r : List Byte)
    (open_ : s.handler.reset = none) (idle : s.centre.sending = none) (noReply : s.centre.replies = []) :
    let reply : Reply := { dest := addressOf t.frame.src, seq := t.frame.seq, code := c, result := r }
    (answered s t c r).centre.sending = some (.reply reply (replyFrame s reply).chars) := by
  simp only [answered, port, queueReply, takeFrame, startCentre, setCentre_centre, setHandler_centre,
    setCentre_handler, setHandler_handler, open_, idle, noReply]
  rfl

/-- The command of the next frame's kind answers it, and what follows is made of port steps. -/
theorem exec_answers (next : nextFrame s = some t) : ∃ u code result,
    exec (commandOf (kindOf t.frame.kind)) s = .next u ∧ (code ≠ ReplyCode.ok → result = []) ∧
    PortSteps (answered s t code result) u := by
  cases kind : kindOf t.frame.kind with
  | none =>
    have served : serveUnknown s = answered s t .unknownKind [] := by
      simp [serveUnknown, next, kind, answered]
    exact ⟨_, _, [], congrArg Host.Outcome.next served, fun _ => rfl, .refl _⟩
  | some k =>
    obtain ⟨_, parse, answer, effect, done, effects⟩ := exec_commandOf_steps k
    cases right : hasRight k t with
    | false =>
      exact ⟨_, _, [], (done s).trans (congrArg _ (serve_rights next kind right)), fun _ => rfl, .refl _⟩
    | true =>
      cases parsed : parse t.frame.payload with
      | none =>
        exact ⟨_, _, [], (done s).trans (congrArg _ (serve_payload next kind right parsed)),
          fun _ => rfl, .refl _⟩
      | some body =>
        by_cases accepted : (answer t body (takeFrame t.port s)).code = .ok
        · exact ⟨_, _, _, (done s).trans (congrArg _ (serve_accepted next kind right parsed accepted)),
            fun refused => absurd rfl refused, (effects t body _).settle⟩
        · exact ⟨_, _, [], (done s).trans (congrArg _ (serve_refused next kind right parsed rfl accepted)),
            fun _ => rfl, .refl _⟩

end

/-- Settles O6: the frame is answered, and only OUTCOME frames follow the answer. -/
theorem requestYieldsOneReply : Obligations.RequestYieldsOneReply := by
  intro s t next
  obtain ⟨u, code, result, done, carried, steps⟩ := exec_answers next
  obtain ⟨⟨taken, reply, others⟩, -⟩ := answered_replied s t code result
  obtain ⟨outcomes, follow⟩ := steps.outcomesFollow
  obtain ⟨served, shorter, other⟩ := taken
  refine ⟨u, code, result, outcomes, done, ⟨?_, ?_, ?_⟩, carried, follow.placed, ?_, ?_,
    fun port free idle noBeat noSteer noReply => ?_, fun port idle noReply => ?_⟩
  · rw [follow.served, served]
  · rw [follow.received, shorter]
  · rw [follow.received, other]
  · cases port : t.port <;> rw [port] at reply <;>
      simp only [queuedReplies] at reply ⊢ <;> simp [follow.line, follow.centre, reply]
  · cases port : t.port <;> rw [port] at others <;>
      simp only [queuedReplies, Port.other] at others ⊢ <;> simp [follow.line, follow.centre, others]
  · exact steps.replyFlies (answered_started port code result free idle noBeat noSteer noReply) rfl
  · exact steps.sends (answered_sending port code result
      (open_of_nextPort ((nextFrame_iff s t).1 next).1).2 idle noReply)

end Sys2Proof.Machine
end

section
/-! O60: what the frames the unit sends and the results it reads out carry. A named value's code is its
position in the list that defines its field; an entry of a group is the table's entry at its index. -/

namespace Sys2Proof.Machine

open Sys2Proof

/-! ### A code is a position in a list (R159) -/

theorem Mode.idxOf_eq_code (m : Mode) : [Mode.hold, .entering, .run].idxOf m = m.code := by
  cases m <;> rfl

theorem SeekState.idxOf_eq_code (k : SeekState) :
    [SeekState.inStep, .lengthen, .shorten].idxOf k = k.code := by
  cases k <;> rfl

theorem RosterState.idxOf_eq_code (r : RosterState) :
    [RosterState.absent, .silent, .linked, .degraded, .lost].idxOf r = r.code := by
  cases r <;> rfl

theorem LineState.idxOf_eq_code (l : LineState) :
    [LineState.free, .busy, .fault].idxOf l = l.code := by
  cases l <;> rfl

theorem DropReason.idxOf_eq_code (r : DropReason) :
    [DropReason.plan, .lost, .notFollowing, .hold, .engineReset].idxOf r = r.code := by
  cases r <;> rfl

theorem SpillReason.idxOf_eq_code (r : SpillReason) :
    [SpillReason.flag, .clearRun, .lost, .geometry].idxOf r = r.code := by
  cases r <;> rfl

theorem PriorityAction.idxOf_eq_code (a : PriorityAction) :
    [PriorityAction.none, .early, .extend, .cut].idxOf a = a.code := by
  cases a <;> rfl

theorem Direction.idxOf_eq_code (d : Direction) :
    [Direction.inbound, .outbound].idxOf d = d.code := by
  cases d <;> rfl

theorem ReplyCode.idxOf_eq_code (c : ReplyCode) :
    [ReplyCode.ok, .busy, .inUse, .notReady, .wrongMode, .refusedRights, .badArgument, .listFull,
      .notFound, .throttled, .unknownKind].idxOf c = c.code := by
  cases c <;> rfl

theorem PlanState.idxOf_eq_code (p : PlanState) :
    [PlanState.empty, .unchecked, .checked].idxOf p = p.code := by
  cases p <;> rfl

theorem GeometryState.idxOf_eq_code (g : GeometryState) :
    [GeometryState.unchecked, .valid].idxOf g = g.code := by
  cases g <;> rfl

theorem GeometryFault.idxOf_eq_code (f : GeometryFault) :
    [GeometryFault.none, .addressClash, .positionOrder, .linkShort, .thresholdOrder, .torn].idxOf f
      = f.code := by
  cases f <;> rfl

theorem Dominance.idxOf_eq_code (d : Dominance) :
    [Dominance.inbound, .outbound, .balanced, .any].idxOf d = d.code := by
  cases d <;> rfl

theorem WindowClass.idxOf_eq_code (c : WindowClass) :
    [WindowClass.uncoordinated, .windowed, .full].idxOf c = c.code := by
  cases c <;> rfl

/-! ### Fields of two values -/

theorem ite_zero_one_eq_yesNo (b : Bool) : (if b = true then char1 0 else char1 1) = char1 (yesNo b) := by
  cases b <;> rfl

theorem ite_one_zero_eq_clearSet (b : Bool) :
    (if b = true then char1 1 else char1 0) = char1 (clearSet b) := by
  cases b <;> rfl

theorem ite_one_zero_eq_toNat (b : Bool) : (if b = true then 1 else 0) = b.toNat := by
  cases b <;> rfl

theorem setClear_eq_yesNo (b : Bool) : setClear b = yesNo b := rfl

theorem openClosed_eq_yesNo (b : Bool) : openClosed b = yesNo b := rfl

/-! ### Tables read entry by entry -/

theorem nth_inGroup {α : Type} (v : Vector α 12) (g : Fin 3) (k : Fin 4) (d : α) :
    nth v (inGroup g.val k.val) d = v[Fin.ofNat 12 (4 * g.val + k.val)] := by
  have index : (Fin.ofNat 12 (4 * g.val + k.val)).val = inGroup g.val k.val :=
    Nat.mod_eq_of_lt (by omega)
  rw [← index, nth_fin]

theorem flatMap_finRange_four {α : Type} (f : Fin 4 → List α) :
    (List.finRange 4).flatMap f = f 0 ++ f 1 ++ f 2 ++ f 3 := by
  simp [List.finRange_succ]

theorem planGroupResult_succ (s : State) (p : Fin 24) (g : Fin 3) :
    planGroupResult s (p.val + 1) g.val = (List.finRange 4).flatMap fun k =>
      (s.store.plans[p].entries[Fin.ofNat 12 (4 * g.val + k.val)]).chars := by
  simp only [flatMap_finRange_four, ← nth_inGroup _ _ _ PlanEntry.erased, planGroupResult,
    Store.plan_succ]
  rfl

theorem geometryGroupResult_fin (s : State) (g : Fin 3) :
    geometryGroupResult s g.val = (List.finRange 4).flatMap fun k =>
      (s.store.geometry.entries[Fin.ofNat 12 (4 * g.val + k.val)]).chars := by
  simp only [flatMap_finRange_four, ← nth_inGroup _ _ _ (GeometryEntry.blank 0), geometryGroupResult]
  rfl

theorem allJunctions_eq_finRange : allJunctions = List.finRange 12 := by decide

theorem linkAt_eq_ofNat {k : Nat} (h : k < 11) : (⟨k, h⟩ : LinkIndex) = Fin.ofNat 11 k :=
  Fin.ext (Nat.mod_eq_of_lt h).symm

/-! ### Link-directions of a junction (R94, R113) -/

theorem inboundBefore_eq_ite (n : Nat) (j : Junction) :
    inboundBefore n j =
      if 1 ≤ j.val ∧ j.val < n then some (Fin.ofNat 11 (j.val - 1)) else none := by
  unfold inboundBefore
  split <;> simp [linkAt_eq_ofNat]

theorem outboundAfter_eq_ite (n : Nat) (j : Junction) :
    outboundAfter n j =
      if j.val + 1 < n ∧ j.val < 11 then some (Fin.ofNat 11 j.val) else none := by
  unfold outboundAfter
  split <;> simp [linkAt_eq_ofNat]

theorem levelRead_ite (levels : Vector Nat 11) (there : Prop) [Decidable there] (k : LinkIndex) :
    char1 (levelRead levels (if there then some k else none)) =
      if there then char1 levels[k] else char1 0 := by
  split <;> rfl

theorem spillChars_ite (spills : Vector Spill 11) (there : Prop) [Decidable there] (k : LinkIndex) :
    spillChars spills (if there then some k else none) =
      if there then [char1 (clearSet spills[k].isSet), char1 spills[k].run]
      else [char1 0, char1 0] := by
  split <;> rfl

/-- Settles O60, conjunct by conjunct: each payload and result is its definition once the codes are read
as positions. -/
theorem fieldsCarriedInOrder : Obligations.FieldsCarriedInOrder := by
  unfold Obligations.FieldsCarriedInOrder
  intro bit first second action direction mode seek roster lineState reason outcome source errors head
    planEntry record setGeneration secondsLeft extension targetAt
  have bit_eq (b : Bool) : bit b = b.toNat := ite_one_zero_eq_toNat b
  have first_eq (b : Bool) : first b = char1 (yesNo b) := ite_zero_one_eq_yesNo b
  have second_eq (b : Bool) : second b = char1 (clearSet b) := ite_one_zero_eq_clearSet b
  have outcome_eq (o : CallOutcome) : outcome o = o.chars := by
    cases o <;> simp only [outcome, action, CallOutcome.chars, PriorityAction.idxOf_eq_code]
  have source_eq (x : Source) : source x = char1 x.code := by cases x <;> rfl
  have planEntry_eq (e : PlanEntry) : planEntry e = e.chars := by
    simp only [planEntry, bit_eq]
    rfl
  have record_eq (w : Option RetentionRecord) :
      record w = char1 (if w.isSome then 1 else 0) :: recordChars w := by
    rcases w with - | (- | - | - | - | - | -) <;> rfl
  have setGeneration_eq (x : Option TargetSet) :
      setGeneration x = (x.map TargetSet.generation).getD 0 := by cases x <;> rfl
  have extension_eq (x : Option Extension) : extension x = extensionChars x := by cases x <;> rfl
  refine ⟨fun v d => ⟨rfl, rfl, rfl, rfl⟩, fun s => ?_⟩
  intro sent
  refine ⟨?beat, ?steer, ?reply, ?outcome, ?notice, ?planHead, ?geometry, ?selection, ?status, ?junction,
    ?band⟩
  case beat =>
    intro seq
    simp only [mode, Mode.idxOf_eq_code]
    rfl
  case steer =>
    intro st
    simp only [bit_eq, seek, action, SeekState.idxOf_eq_code, PriorityAction.idxOf_eq_code]
    rfl
  case reply =>
    intro r
    refine ⟨rfl, ?_⟩
    simp only [ReplyCode.idxOf_eq_code]
    rfl
  case outcome =>
    intro o
    simp only [outcome_eq, direction, Direction.idxOf_eq_code]
    rfl
  case notice =>
    rintro ⟨seq, body⟩
    cases body <;> simp only [outcome_eq, source_eq, first_eq, second_eq, mode, roster, direction,
      lineState, reason, Mode.idxOf_eq_code, RosterState.idxOf_eq_code, Direction.idxOf_eq_code,
      LineState.idxOf_eq_code, SpillReason.idxOf_eq_code, DropReason.idxOf_eq_code]
    case priorityOutcome j d tag o src placed => cases o <;> rfl
    all_goals rfl
  case planHead =>
    intro p r
    simp only [planEntry_eq, first_eq, PlanState.idxOf_eq_code]
    refine ⟨?_, planGroupResult_succ s p⟩
    have fault_chars : ∀ f : PlanFault, f.chars = match f with
        | .sideTime j => [char1 6, char1 j]
        | f => [char1 ([PlanFault.none, .noGeometry, .offsetRange, .anchorRange, .biasOrder,
              .greenSide, .sideTime 0, .noBand, .torn].idxOf f), char1 0] := by
      intro f; cases f <;> rfl
    simp only [planHeadResult, Store.plan_succ, fault_chars]
    rfl
  case geometry =>
    intro g
    simp only [GeometryState.idxOf_eq_code, GeometryFault.idxOf_eq_code]
    exact ⟨rfl, geometryGroupResult_fin s⟩
  case selection =>
    intro i e
    simp only [first_eq, Dominance.idxOf_eq_code]
    exact congrArg SelectionEntry.chars (nth_fin s.store.selection i .blank)
  case status =>
    simp only [first_eq, second_eq, setGeneration_eq, record_eq, source_eq, mode, roster, direction,
      lineState, Mode.idxOf_eq_code, RosterState.idxOf_eq_code, Direction.idxOf_eq_code,
      LineState.idxOf_eq_code, Dominance.idxOf_eq_code, ← allJunctions_eq_finRange,
      ← lineReplyCount_eq, ← centreReplyCount_eq]
    rfl
  case junction =>
    intro j n r level spill before after fromBefore toAfter
    simp only [first_eq, extension_eq, roster, seek, SeekState.idxOf_eq_code, RosterState.idxOf_eq_code,
      junctionResult, inboundExit, outboundExit, inboundBefore_eq_ite, outboundAfter_eq_ite,
      levelRead_ite, spillChars_ite, LocalCycle.chars, setClear_eq_yesNo, openClosed_eq_yesNo]
    simp only [level, spill, fromBefore, toAfter, before, after, n, r, second_eq, List.append_assoc]
    rfl
  case band =>
    intro t
    simp only [first_eq, WindowClass.idxOf_eq_code]
    rfl

end Sys2Proof.Machine
end

section
/-! The step, and what follows a completed frame of the centre transmitter (R163, R172). -/

namespace Sys2Proof.Machine

open Sys2Proof

/-- Settles O1, by the second case of the step. -/
theorem stepRunsFrontCommand : Obligations.StepRunsFrontCommand := by
  intro s c rest queue
  rw [step, queue]

/-! ### The end of a frame on the centre link (R163, R172) -/

section
variable {s : State}

/-- With no reply of a RESET_UNIT completed an idle transmitter starts the oldest reply. -/
theorem startCentre_reply {r : Reply} {rest : List Reply} (idle : s.centre.sending = none)
    (open_ : ∀ x, s.handler.reset = some x → x.replyDone = false) (waits : s.centre.replies = r :: rest) :
    startCentre s = s.setCentre
      { s.centre with replies := rest, sending := some (.reply r (replyFrame s r).chars) } := by
  have starts : s.handler.reset.any (fun x => x.replyDone) = false := by
    simpa [Option.any_eq_false] using open_
  simp [startCentre, idle, starts, waits]

/-- Without a RESET_UNIT and with no reply waiting an idle transmitter starts the oldest notice. -/
theorem startCentre_notice {n : Notice} {rest : List Notice} (idle : s.centre.sending = none)
    (open_ : s.handler.reset = none) (noReply : s.centre.replies = [])
    (waits : s.centre.notices = n :: rest) :
    startCentre s = s.setCentre
      { s.centre with notices := rest, sending := some (.notice n (noticeFrame s n).chars) } := by
  simp [startCentre, idle, open_, noReply, waits]

theorem startCentre_empty (noReply : s.centre.replies = []) (noNotice : s.centre.notices = []) :
    startCentre s = s := by
  simp [startCentre, noReply, noNotice]

/-- After the reply of the RESET_UNIT nothing more is started. -/
theorem startCentre_done {x : PendingReset} (waits : s.handler.reset = some x) (done : x.replyDone = true) :
    startCentre s = s := by
  simp [startCentre, waits, done]

theorem markReplyDone_none {h : Handler} (c : Centre) (sent : CentreSending) (open_ : h.reset = none) :
    markReplyDone c sent h = h := by
  simp [markReplyDone, open_]

/-- A frame that is not the last reply leaves the waiting RESET_UNIT as it was. -/
theorem markReplyDone_stays {c : Centre} {sent : CentreSending} {h : Handler}
    (more : endsResetReply c sent = false) : markReplyDone c sent h = h := by
  unfold markReplyDone
  split
  · rfl
  · next x waits => simp [more, ← waits]

/-- The end of the last reply is the end of the reply of the RESET_UNIT. -/
theorem markReplyDone_ends {c : Centre} {sent : CentreSending} {h : Handler} {x : PendingReset}
    (waits : h.reset = some x) (last : endsResetReply c sent = true) :
    markReplyDone c sent h = { h with reset := some { x with replyDone := true } } := by
  simp [markReplyDone, waits, last]

/-- The transmitter once the frame that it sent has completed. -/
def sendingEnded (s : State) : State := s.setCentre { s.centre with sending := none }

/-- The completed frame leaves the transmitter, a RESET_UNIT learns of its reply, and the next frame
starts. -/
theorem centreComplete_sends {sent : CentreSending} (sends : s.centre.sending = some sent) :
    centreComplete s =
      startCentre (sendingEnded (s.setHandler (markReplyDone s.centre sent s.handler))) := by
  rw [centreComplete, sends]
  rfl

theorem exec_centreFrameComplete {sent : CentreSending} (running : s.inReset = false)
    (sends : s.centre.sending = some sent) :
    exec .centreFrameComplete s = .next (startCentre
      (sendingEnded (s.setHandler (markReplyDone s.centre sent s.handler)))) :=
  congrArg Host.Outcome.next
    ((whenRunning_running centreComplete running).trans (centreComplete_sends sends))

/-- A frame whose end leaves the handler as it was. -/
theorem exec_centreFrameComplete_kept {sent : CentreSending} (running : s.inReset = false)
    (sends : s.centre.sending = some sent) (kept : markReplyDone s.centre sent s.handler = s.handler) :
    exec .centreFrameComplete s = .next (startCentre (sendingEnded s)) := by
  rw [exec_centreFrameComplete running sends, kept]
  rfl

/-- The oldest waiting reply follows, formed from the state in which the frame completed. -/
theorem exec_centreFrameComplete_reply {sent : CentreSending} {r : Reply} {rest : List Reply}
    (running : s.inReset = false) (sends : s.centre.sending = some sent)
    (open_ : ∀ x, s.handler.reset = some x → x.replyDone = false) (waits : s.centre.replies = r :: rest) :
    exec .centreFrameComplete s = .next { s with centre := { s.centre with
      replies := rest, sending := some (.reply r (replyFrame s r).chars) } } := by
  have more : endsResetReply s.centre sent = false := by simp [endsResetReply, waits]
  rw [exec_centreFrameComplete_kept running sends (markReplyDone_stays more),
    startCentre_reply (s := sendingEnded s) rfl open_ waits]
  rfl

/-- With no reply waiting, and without a RESET_UNIT, the oldest notice follows. -/
theorem exec_centreFrameComplete_notice {sent : CentreSending} {n : Notice} {rest : List Notice}
    (running : s.inReset = false) (sends : s.centre.sending = some sent) (open_ : s.handler.reset = none)
    (noReply : s.centre.replies = []) (waits : s.centre.notices = n :: rest) :
    exec .centreFrameComplete s = .next { s with centre := { s.centre with
      notices := rest, sending := some (.notice n (noticeFrame s n).chars) } } := by
  rw [exec_centreFrameComplete_kept running sends (markReplyDone_none _ _ open_),
    startCentre_notice (s := sendingEnded s) rfl open_ noReply waits]
  rfl

theorem exec_centreFrameComplete_empty {sent : CentreSending} (running : s.inReset = false)
    (sends : s.centre.sending = some sent) (open_ : s.handler.reset = none)
    (noReply : s.centre.replies = []) (noNotice : s.centre.notices = []) :
    exec .centreFrameComplete s = .next { s with centre := { s.centre with sending := none } } := by
  rw [exec_centreFrameComplete_kept running sends (markReplyDone_none _ _ open_),
    startCentre_empty (s := sendingEnded s) noReply noNotice]
  rfl

/-- The reply of the RESET_UNIT completes, and the transmitter stops (R172). -/
theorem exec_centreFrameComplete_resetReply {x : PendingReset} {r : Reply} {chars : List Byte}
    (running : s.inReset = false) (sends : s.centre.sending = some (.reply r chars))
    (waits : s.handler.reset = some x) (noReply : s.centre.replies = []) :
    exec .centreFrameComplete s = .next { s with
      centre := { s.centre with sending := none }
      handler := { s.handler with reset := some { x with replyDone := true } } } := by
  have last : endsResetReply s.centre (.reply r chars) = true := by
    simp [endsResetReply, CentreSending.isReply, noReply]
  rw [exec_centreFrameComplete running sends, markReplyDone_ends waits last, startCentre_done rfl rfl]
  rfl

end

end Sys2Proof.Machine
end

section
/-! The centre transmitter under every command: it stands idle only while nothing waits, and what it sends is
the frame of its reply or notice (R163, R172). -/

namespace Sys2Proof.Machine

open Sys2Proof

/-- What `CentreGoes` speaks of stays: the reset flag, the straps that give the unit its address, an accepted
RESET_UNIT, and what the centre transmitter sends and has waiting. -/
def TransmitterKept (s u : State) : Prop :=
  u.inReset = s.inReset ∧ u.straps = s.straps ∧ u.handler.reset = s.handler.reset ∧
  u.centre.sending = s.centre.sending ∧ u.centre.replies = s.centre.replies ∧
  u.centre.notices = s.centre.notices

@[simp] theorem transmitterKept_iff {s u : State} : TransmitterKept s u ↔
    u.inReset = s.inReset ∧ u.straps = s.straps ∧ u.handler.reset = s.handler.reset ∧
    u.centre.sending = s.centre.sending ∧ u.centre.replies = s.centre.replies ∧
    u.centre.notices = s.centre.notices := .rfl

/-- If the centre transmitter went on in `s`, it does in `u`. -/
def CentreGoesOn (s u : State) : Prop := CentreGoes s → CentreGoes u

section
variable {s u v : State}

/-! ### What `CentreGoes` reads of a state -/

theorem replyFrame_congr (straps : u.straps = s.straps) (r : Reply) : replyFrame u r = replyFrame s r := by
  simp only [replyFrame, unitFrame, unitAddress, straps]

theorem noticeFrame_congr (straps : u.straps = s.straps) (n : Notice) :
    noticeFrame u n = noticeFrame s n := by
  simp only [noticeFrame, unitFrame, unitAddress, straps]

theorem CentreGoesOn.of_kept (kept : TransmitterKept s u) : CentreGoesOn s u := by
  obtain ⟨reset, straps, pending, sending, replies, notices⟩ := kept
  intro goes
  refine ⟨?_, fun r => ?_, fun n => ?_, ?_⟩
  · simpa only [reset, pending, sending, replies, notices] using goes.starts
  · simpa only [sending, replyFrame_congr straps] using goes.reply r
  · simpa only [sending, noticeFrame_congr straps] using goes.notice n
  · simpa only [pending, centreReplies, sending, replies] using goes.pending

theorem CentreGoesOn.refl (s : State) : CentreGoesOn s s := id

theorem CentreGoesOn.trans (h : CentreGoesOn s v) (h' : CentreGoesOn v u) : CentreGoesOn s u := fun goes =>
  h' (h goes)

theorem CentreGoesOn.then_kept (h : CentreGoesOn s v) (kept : TransmitterKept v u) : CentreGoesOn s u :=
  h.trans (.of_kept kept)

/-- The arrival of the causes of an event leaves the transmitter (R28). -/
theorem CentreGoesOn.settle (h : CentreGoesOn s v) : CentreGoesOn s (settle v) :=
  h.then_kept (by simp)

/-! ### A notice or a reply queued (R163, R165) -/

/-- A queued notice starts at once on an idle transmitter, unless it stands still after the reply of a
RESET_UNIT. -/
theorem queueNotice_centreGoesOn (body : NoticeBody) (s : State) : CentreGoesOn s (queueNotice body s) :=
  fun goes => startCentre_goes (s := s.setCentre _) goes.reply goes.notice goes.pending

theorem CentreGoesOn.notice (h : CentreGoesOn s v) (body : NoticeBody) :
    CentreGoesOn s (queueNotice body v) := h.trans (queueNotice_centreGoesOn body v)

/-- A reply queued behind the others is one that a RESET_UNIT may wait for. -/
theorem queueReply_centreGoesOn (p : Port) (f : Frame) (c : ReplyCode) (r : List Byte) (s : State) :
    CentreGoesOn s (queueReply p f c r s) := by
  cases p with
  | line => exact .of_kept (by simp [queueReply])
  | centre =>
    exact fun goes => startCentre_goes (s := s.setCentre _) goes.reply goes.notice
      fun _ _ _ => by simp [centreReplies]

/-! ### Entries that leave the priority list, and evaluations (R127, R131, R134, R136) -/

theorem removeEntry_centreGoesOn (e : PriorityEntry) (o : CallOutcome) (s : State) :
    CentreGoesOn s (removeEntry e o s) :=
  .notice (.of_kept (by simp)) _

theorem removeAll_centreGoesOn (o : CallOutcome) (es : List PriorityEntry) (s : State) :
    CentreGoesOn s (removeAll o es s) := by
  induction es generalizing s with
  | nil => exact .refl s
  | cons e rest ih => exact (removeEntry_centreGoesOn e o s).trans (ih _)

theorem dropEntries_centreGoesOn (picks : PriorityEntry → Bool) (r : DropReason) (s : State) :
    CentreGoesOn s (dropEntries picks r s) := removeAll_centreGoesOn _ _ s

theorem serveEntries_centreGoesOn (j : Junction) (es : List PriorityEntry) (s : State) :
    CentreGoesOn s (serveEntries j es s) := by
  have steered : ∀ s a n r, CentreGoesOn s (queueSteer j a n (setCycle s j r)) :=
    fun _ _ _ _ => .of_kept (by simp)
  induction es generalizing s with
  | nil => exact .refl s
  | cons e rest ih =>
    unfold serveEntries
    dsimp only
    split
    · exact (removeEntry_centreGoesOn e _ s).trans (ih _)
    · exact (steered s _ _ _).trans (removeEntry_centreGoesOn e _ _)
    · exact (steered s _ _ _).trans (removeEntry_centreGoesOn e _ _)
    · exact ih s

theorem evaluate_centreGoesOn (j : Junction) (s : State) : CentreGoesOn s (evaluate j s) := by
  unfold evaluate
  split
  · exact serveEntries_centreGoesOn j _ s
  · exact .refl s

theorem closeWindow_centreGoesOn (j : Junction) (s : State) : CentreGoesOn s (closeWindow j s) :=
  .trans (.of_kept (by simp)) (evaluate_centreGoesOn j (setCycle s j _))

theorem cutExtension_centreGoesOn (j : Junction) (e : Extension) (s : State) :
    CentreGoesOn s (cutExtension j e s) := by
  have steered : ∀ n r, CentreGoesOn s (queueSteer j .cut n (setCycle s j r)) :=
    fun _ _ => .of_kept (by simp)
  unfold cutExtension
  dsimp only
  split
  · exact ((steered _ _).notice _).trans (closeWindow_centreGoesOn j _)
  · exact (steered _ _).notice _

/-! ### Reports, period ends and changes of N (R116, R120, R121, R141, R143, R145, R148) -/

theorem setSpill_centreGoesOn (d : Direction) (k : LinkIndex) (x : Spill) (j : Nat) (r : SpillReason)
    (s : State) : CentreGoesOn s (setSpill d k x j r s) := by
  have written : CentreGoesOn s (writeSpill d k x s) := .of_kept (by simp)
  unfold setSpill
  dsimp only
  split
  · exact written
  · exact (written.notice (.spillback d k x.isSet j r)).then_kept (by simp)

theorem gateReport_centreGoesOn (j : Junction) (b : ReportBody) (s : State) :
    CentreGoesOn s (gateReport j b s) := by
  have stepped : ∀ d k flag v, CentreGoesOn v (stepSpill d k flag j v) := by
    intro d k flag v
    cases k with
    | none => exact .refl v
    | some k => exact setSpill_centreGoesOn _ _ _ _ _ v
  exact (stepped _ _ _ s).trans (stepped _ _ _ _)

theorem gateLost_centreGoesOn (j : Junction) (s : State) : CentreGoesOn s (gateLost j s) := by
  have cleared : ∀ d k v, CentreGoesOn v (clearSpill d k j.val .lost v) := by
    intro d k v
    cases k with
    | none => exact .refl v
    | some k => exact setSpill_centreGoesOn _ _ _ _ _ v
  exact (cleared _ _ s).trans (cleared _ _ _)

theorem acceptReport_centreGoesOn (j : Junction) (b : ReportBody) (s : State) :
    CentreGoesOn s (acceptReport j b s) := by
  unfold acceptReport
  dsimp only
  generalize hv : demandReport j _ b _ = v
  have heard : CentreGoesOn s v := hv ▸ .of_kept (by simp)
  have measured := heard.trans (gateReport_centreGoesOn j b v)
  generalize hw : (if b.following = true then gateReport j b v
    else dropEntries _ .notFollowing (gateReport j b v)) = w
  have dropped : CentreGoesOn s w := by
    rw [← hw]
    split
    · exact measured
    · exact measured.trans (dropEntries_centreGoesOn _ _ _)
  split
  · exact dropped.notice _
  · exact dropped

theorem periodEndFor_centreGoesOn (j : Junction) (s : State) : CentreGoesOn s (periodEndFor j s) := by
  unfold periodEndFor enterLost
  dsimp only
  split
  · generalize hv : demandLost j _ = v
    have monitored : CentreGoesOn s v := hv ▸ .of_kept (by simp)
    have dropped := (monitored.trans (gateLost_centreGoesOn j v)).trans
      (dropEntries_centreGoesOn (fun e => decide (e.junction = j)) .lost _)
    exact (dropped.then_kept (u := raiseCause _) (by simp)).notice _
  · exact .of_kept (by simp)

theorem forJunctions_centreGoesOn {act : Junction → State → State}
    (each : ∀ j v, CentreGoesOn v (act j v)) (js : List Junction) (s : State) :
    CentreGoesOn s (forJunctions act js s) := by
  induction js generalizing s with
  | nil => exact .refl s
  | cons j rest ih => exact (each j s).trans (ih _)

theorem gateForN_centreGoesOn (n : Nat) (ks : List LinkIndex) (s : State) :
    CentreGoesOn s (gateForN n ks s) := by
  induction ks generalizing s with
  | nil => exact .refl s
  | cons k rest ih =>
    unfold gateForN
    split
    · exact ih s
    · exact ((setSpill_centreGoesOn _ _ _ _ _ s).trans (setSpill_centreGoesOn _ _ _ _ _ _)).trans (ih _)

theorem changeN_centreGoesOn (old : Nat) (s : State) : CentreGoesOn s (changeN old s) := by
  unfold changeN
  dsimp only
  split
  · exact .refl s
  · exact .trans (.of_kept (by simp)) (gateForN_centreGoesOn _ _ (State.setDemand _ _))

/-! ### The Timebase (R53, R54, R56, R57, R59, R173) -/

theorem enterEntering_centreGoesOn (p : Nat) (s : State) : CentreGoesOn s (enterEntering p s) := by
  unfold enterEntering
  dsimp only
  generalize hv : State.setSelector _ _ = v
  have entered : CentreGoesOn s v := hv ▸ .of_kept (by simp)
  exact (entered.notice (.modeChanged .hold .entering p)).then_kept (by simp)

theorem stopCoordination_centreGoesOn (r : DropReason) (s : State) :
    CentreGoesOn s (stopCoordination r s) := by
  unfold stopCoordination
  dsimp only
  generalize hv : emptySteers _ = v
  have held : CentreGoesOn s v := hv ▸ .of_kept (by simp)
  exact (held.trans (dropEntries_centreGoesOn (fun _ => true) r v)).then_kept (by simp)

theorem holdEffects_centreGoesOn (s : State) : CentreGoesOn s (holdEffects s) :=
  ((stopCoordination_centreGoesOn .hold s).then_kept (u := queueBeat _) (by simp)).notice _

theorem engineReset_centreGoesOn (s : State) : CentreGoesOn s (engineReset s) := by
  have emptied : CentreGoesOn s (emptyBeat s) := .of_kept (by simp)
  have stopped := emptied.trans (stopCoordination_centreGoesOn .engineReset _)
  have reset : CentreGoesOn s (resetCoordination s) := by
    unfold resetCoordination
    dsimp only
    split
    · exact stopped
    · exact (stopped.then_kept (u := queueBeat _) (by simp)).notice _
  exact reset.then_kept (by simp [engineReset_centre])

/-- The entry into RUN: beat and steers go by the line, and one notice is queued (R54). -/
theorem enterRun_centreGoesOn (s : State) : CentreGoesOn s (enterRun s) := by
  have steered : CentreGoesOn (entryPlaced s) _ := forJunctions_centreGoesOn (act := plainSteer)
    (fun _ _ => .of_kept (by simp)) (liveJunctions (entryPlaced s)) _
  have placed : CentreGoesOn s (entryPlaced s) :=
    .of_kept (by simp [entryPlaced, entryBeat])
  have entered : CentreGoesOn s (enteredRun s) :=
    ((placed.trans steered).then_kept (u := State.setSelector _ _) (by simp)).notice _
  rw [enterRun_eq]
  exact entered.then_kept (by simp)

theorem completeComputation_centreGoesOn (x : Snapshot) (s : State) :
    CentreGoesOn s (completeComputation x s) := by
  have entering : ∀ v, CentreGoesOn s v →
      CentreGoesOn s (if s.timebase.mode = .entering then enterRun v else v) := by
    intro v stored
    split
    · exact stored.trans (enterRun_centreGoesOn v)
    · exact stored
  have published : CentreGoesOn s (publish x s) := by
    unfold publish
    dsimp only
    refine entering _ ?_
    split <;> exact .of_kept (by simp)
  have arrived : CentreGoesOn s (settle (if discards s x then s else publish x s)) := by
    refine CentreGoesOn.settle ?_
    split
    · exact .refl s
    · exact published
  show CentreGoesOn s (nextComputation (discards s x) _)
  rw [nextComputation_frame]
  exact arrived.then_kept (by simp)

theorem boundary_centreGoesOn (s : State) : CentreGoesOn s (boundary s) := by
  unfold boundary switchPlan
  dsimp only
  repeat' split
  · exact .refl s
  · generalize hv : setLiveBias _ _ = v
    have switched : CentreGoesOn s v := hv ▸ .of_kept (by simp)
    exact (switched.trans (dropEntries_centreGoesOn _ .plan v)).notice _
  · exact .refl s

theorem lapsePins_centreGoesOn (s : State) : CentreGoesOn s (lapsePins s) :=
  .notice (.of_kept (by simp)) _

end

/-! ### Requests (R165, R166, R172) -/

section
variable {s u : State}

theorem answered_centreGoesOn (s : State) (t : Taken) (c : ReplyCode) (r : List Byte) :
    CentreGoesOn s (answered s t c r) := by
  have taken : CentreGoesOn s (takeFrame t.port s) := by
    cases t.port <;> exact .of_kept (by simp [takeFrame])
  exact taken.trans (queueReply_centreGoesOn _ _ _ _ _)

/-- A request is answered, and an accepted one has its effect on the answered state. -/
theorem serve_centreGoesOn {α : Type} {k : RequestKind} {parse : List Byte → Option α}
    {answer : Taken → α → State → Answer} {effect : Taken → α → State → State}
    (effects : ∀ t body v, CentreGoesOn v (effect t body v)) (s : State) :
    CentreGoesOn s (serve k parse answer effect s) := by
  obtain e | ⟨t, _, _, ⟨c, _, e⟩ | ⟨body, r, _, _, _, _, e⟩⟩ :=
    serve_cases (k := k) (parse := parse) (answer := answer) (effect := effect) (s := s) <;> rw [e]
  · exact .refl s
  · exact answered_centreGoesOn s t c []
  · exact ((answered_centreGoesOn s t .ok r).trans (effects t body _)).settle

theorem serveUnknown_centreGoesOn (s : State) : CentreGoesOn s (serveUnknown s) := by
  unfold serveUnknown
  repeat' split
  · exact .refl s
  · exact answered_centreGoesOn s _ _ _
  · exact .refl s

/-- The centre alone may send a RESET_UNIT (R166). -/
theorem port_of_hasRight_resetUnit {t : Taken} (next : nextFrame s = some t)
    (right : hasRight .resetUnit t = true) : t.port = .centre := by
  obtain ⟨-, -, sender⟩ := (nextFrame_iff s t).1 next
  have sent : maySend .resetUnit t.sender = true := (Bool.and_eq_true_iff.1 right).1
  cases port : t.port with
  | centre => rfl
  | line =>
    rw [sender, port, senderOf] at sent
    split at sent <;> cases sent

/-- An accepted RESET_UNIT has its own reply to wait for, on the port by which it came (R172). -/
theorem serve_resetUnit_centreGoesOn (s : State) :
    CentreGoesOn s (serve .resetUnit parseOption answerResetUnit effectResetUnit s) := by
  obtain e | ⟨t, next, _, ⟨c, _, e⟩ | ⟨relatch, r, right, _, _, _, e⟩⟩ :=
    serve_cases (k := .resetUnit) (parse := parseOption) (answer := answerResetUnit)
      (effect := effectResetUnit) (s := s) <;> rw [e]
  · exact .refl s
  · exact answered_centreGoesOn s t c []
  · refine CentreGoesOn.settle fun goes => ?_
    have open_ := (open_of_nextPort ((nextFrame_iff s t).1 next).1).2
    have answeredGoes := answered_centreGoesOn s t .ok r goes
    have replies : centreReplies (answered s t .ok r).centre ≠ [] := by
      have queued := (answered_replied s t .ok r).1.2.1
      rw [port_of_hasRight_resetUnit next right] at queued
      intro empty
      simp [queuedReplies, empty] at queued
    refine ⟨fun running _ => answeredGoes.starts running fun x waits => ?_, answeredGoes.reply,
      answeredGoes.notice, fun _ _ _ => replies⟩
    simp [open_] at waits

variable (t : Taken) (v : State)

theorem effectReport_centreGoesOn (b : ReportBody) : CentreGoesOn v (effectReport t b v) := by
  unfold effectReport
  split
  · exact acceptReport_centreGoesOn _ b v
  · exact .refl v

theorem effectCall_centreGoesOn (b : CallBody) : CentreGoesOn v (effectCall t b v) := by
  unfold effectCall
  split
  · exact .trans (.of_kept (by simp)) (evaluate_centreGoesOn _ (v.setPriority _))
  · exact .refl v

theorem effectCancel_centreGoesOn (b : CancelBody) : CentreGoesOn v (effectCancel t b v) := by
  unfold effectCancel
  repeat' split
  · exact removeEntry_centreGoesOn _ _ v
  · exact cutExtension_centreGoesOn _ _ v
  · exact .refl v
  · exact .refl v

theorem effectStatus_centreGoesOn (b : StatusBody) : CentreGoesOn v (effectStatus t b v) := by
  unfold effectStatus
  split <;> exact .of_kept (by simp [clearCounters])

theorem retainPlan_centreGoesOn (p : Nat) (record : Fin 24 → RetentionRecord) (store : Store) :
    CentreGoesOn v (retainPlan p record (v.setStore store)) := by
  unfold retainPlan
  split <;> exact .of_kept (by simp [startRetention])

theorem effectPlanCheck_centreGoesOn (p : Nat) : CentreGoesOn v (effectPlanCheck t p v) := by
  unfold effectPlanCheck
  dsimp only
  split
  · exact .of_kept (by simp)
  · exact retainPlan_centreGoesOn v _ _ _

theorem effectGeometryHeadWrite_centreGoesOn (h : GeometryHead) :
    CentreGoesOn v (effectGeometryHeadWrite t h v) :=
  .trans (.of_kept (by simp [startRetention]))
    (changeN_centreGoesOn _ (startRetention _ (v.setStore _)))

theorem effectGeometryCheck_centreGoesOn (b : Unit) : CentreGoesOn v (effectGeometryCheck t b v) := by
  unfold effectGeometryCheck
  dsimp only
  split <;> exact .of_kept (by simp [startRetention])

theorem effectSelectionWrite_centreGoesOn (b : SelectionWrite) :
    CentreGoesOn v (effectSelectionWrite t b v) := by
  unfold effectSelectionWrite
  split <;> exact .of_kept (by simp [startRetention])

theorem effectPinPlan_centreGoesOn (p : Nat) : CentreGoesOn v (effectPinPlan t p v) := by
  unfold effectPinPlan
  split <;> exact .of_kept (by simp)

theorem effectPinBias_centreGoesOn (n : Nat) : CentreGoesOn v (effectPinBias t n v) := by
  unfold effectPinBias
  split <;> exact .of_kept (by simp)

end

/-! ### Resets (R170 to R172) -/

/-- The frame in flight is abandoned, and nothing is asked of the transmitter in reset (R170). -/
theorem assertReset_centreGoes (s : State) : CentreGoes (assertReset s) := by
  constructor <;> simp [assertReset]

/-- After a restart nothing waits but the notice of a start decision for AUTO (R170, R171). -/
theorem startDecision_restart_centreGoes (s : State) : CentreGoes (startDecision (restart s)) := by
  have empty : CentreGoes (restart s) := by
    constructor <;> simp [restart, Centre.initial, Handler.initial]
  unfold startDecision
  dsimp only
  split
  · exact (enterEntering_centreGoesOn _ _).settle empty
  · exact empty

/-! ### Events -/

theorem whenRunning_centreGoesOn {act : State → State} {s : State} (h : CentreGoesOn s (act s)) :
    CentreGoesOn s (whenRunning act s) := by
  unfold whenRunning
  split
  · exact .refl s
  · exact h

section
variable (s : State)

theorem resetUnitNow_centreGoesOn (pins : Straps) : CentreGoesOn s (resetUnitNow pins s) := by
  unfold resetUnitNow hardwareReset
  repeat' split
  · exact .refl s
  · exact fun _ => startDecision_restart_centreGoes _
  · exact fun _ => startDecision_restart_centreGoes s

theorem cycleBoundary_centreGoesOn : CentreGoesOn s (cycleBoundary s) := by
  unfold cycleBoundary
  split
  · exact .settle (.trans (.of_kept (by simp)) (boundary_centreGoesOn (s.setDue _)))
  · exact .refl s

theorem localZero_centreGoesOn (j : Junction) : CentreGoesOn s (localZero j s) := by
  unfold localZero
  split
  · exact .settle (.trans (.of_kept (by simp))
      (evaluate_centreGoesOn j (plainSteer j _)))
  · exact .refl s

theorem windowClose_centreGoesOn (j : Junction) : CentreGoesOn s (windowClose j s) := by
  unfold windowClose
  split
  · exact (closeWindow_centreGoesOn j s).settle
  · exact .refl s

theorem beatNow_centreGoesOn : CentreGoesOn s (beatNow s) := by
  unfold beatNow
  split <;> exact .of_kept (by simp)

theorem selectorEvaluation_centreGoesOn : CentreGoesOn s (selectorEvaluation s) := by
  unfold selectorEvaluation
  split <;> exact .of_kept (by simp)

theorem pinLapse_centreGoesOn : CentreGoesOn s (pinLapse s) := by
  unfold pinLapse
  split
  · exact (lapsePins_centreGoesOn s).settle
  · exact .refl s

theorem periodEnd_centreGoesOn : CentreGoesOn s (periodEnd s) := by
  unfold periodEnd
  dsimp only
  split
  · exact .settle (.trans (.of_kept (by simp))
      (forJunctions_centreGoesOn periodEndFor_centreGoesOn _ (s.setDue _)))
  · exact .refl s

theorem expireEntry_centreGoesOn (j : Junction) (tag : Nat) : CentreGoesOn s (expireEntry j tag s) := by
  unfold expireEntry
  repeat' split
  · exact removeEntry_centreGoesOn _ _ s
  · exact .refl s
  · exact .refl s

theorem completeRetention_centreGoesOn : CentreGoesOn s (completeRetention s) := by
  unfold completeRetention
  split <;> exact .of_kept (by simp)

theorem computationDone_centreGoesOn : CentreGoesOn s (computationDone s) := by
  unfold computationDone
  split
  · exact .refl s
  · exact completeComputation_centreGoesOn _ s

theorem tick_centreGoesOn : CentreGoesOn s (tick s) := by
  unfold tick
  repeat' split
  all_goals exact .of_kept (by simp [tickRun, tickClocks])

theorem lineBusy_centreGoesOn : CentreGoesOn s (lineBusy s) := by
  unfold lineBusy
  split <;> exact .of_kept (by simp)

theorem gapFault_centreGoesOn (chars : List Byte) : CentreGoesOn s (gapFault s chars) := by
  unfold gapFault
  split <;> exact .of_kept (by simp)

theorem lineFree_centreGoesOn (chars : List Byte) : CentreGoesOn s (lineFree chars s) := by
  have free : CentreGoesOn s
      ((gapFault s chars).setLine { (gapFault s chars).line with state := .free }) :=
    (gapFault_centreGoesOn s chars).then_kept (by simp)
  unfold lineFree
  dsimp only
  split
  · exact .refl s
  · split
    · exact (free.notice (.lineState .free)).then_kept (by simp)
    · exact free.then_kept (by simp)

theorem lineFault_centreGoesOn : CentreGoesOn s (lineFault s) := by
  unfold lineFault
  split
  · exact .notice (.of_kept (by simp)) _
  · exact .refl s

theorem frameComplete_centreGoesOn : CentreGoesOn s (frameComplete s) := by
  unfold frameComplete
  split <;> exact .of_kept (by simp)

theorem arbitrationLoss_centreGoesOn : CentreGoesOn s (arbitrationLoss s) := by
  unfold arbitrationLoss
  dsimp only
  repeat' split
  all_goals exact .of_kept (by simp)

theorem lineReceive_centreGoesOn (chars : List Byte) : CentreGoesOn s (lineReceive chars s) := by
  unfold lineReceive placeLineFrame lineRxFault
  repeat' split
  all_goals exact .of_kept (by simp)

theorem centreReceive_centreGoesOn (chars : List Byte) : CentreGoesOn s (centreReceive chars s) := by
  unfold centreReceive placeCentreFrame centreRxFault
  repeat' split
  all_goals exact .of_kept (by simp)

theorem lineDiscard_centreGoesOn (f : RxFault) (chars : List Byte) :
    CentreGoesOn s (lineDiscard f chars s) := by
  unfold lineDiscard lineRxFault
  split <;> exact .of_kept (by simp)

theorem centreDiscard_centreGoesOn (f : RxFault) (chars : List Byte) :
    CentreGoesOn s (centreDiscard f chars s) := by
  unfold centreDiscard centreRxFault
  split <;> exact .of_kept (by simp)

/-- While a RESET_UNIT waits for its reply, the end of another frame leaves a reply waiting: the reply of the
RESET_UNIT is the last (R172). -/
theorem replies_of_not_endsResetReply {c : Centre} {sent : CentreSending} (sends : c.sending = some sent)
    (held : centreReplies c ≠ []) (more : endsResetReply c sent = false) : c.replies ≠ [] := by
  intro empty
  cases sent with
  | reply r chars => simp [endsResetReply, CentreSending.isReply, empty] at more
  | notice n chars => simp [centreReplies, sends, CentreSending.replySent, empty] at held

theorem centreComplete_centreGoesOn : CentreGoesOn s (centreComplete s) := by
  intro goes
  cases sends : s.centre.sending with
  | none => rwa [centreComplete, sends]
  | some sent =>
    rw [centreComplete_sends sends]
    refine startCentre_goes (fun _ _ idle => nomatch idle) (fun _ _ idle => nomatch idle)
      fun x waits notDone => ?_
    show s.centre.replies ≠ []
    cases last : endsResetReply s.centre sent with
    | false =>
      rw [markReplyDone_stays last] at waits
      exact replies_of_not_endsResetReply sends (goes.pending x waits notDone) last
    | true =>
      cases reset : s.handler.reset with
      | none =>
        rw [markReplyDone_none _ _ reset] at waits
        exact absurd (reset.symm.trans waits) nofun
      | some y =>
        rw [markReplyDone_ends reset last] at waits
        obtain rfl := Option.some.inj waits
        cases notDone

end

/-- Every command keeps it so that the centre transmitter goes on (R163, R172). -/
theorem exec_centreGoesOn {c : Instr} {s u : State} (done : exec c s = .next u) : CentreGoesOn s u := by
  have event : ∀ {act : State → State}, whenRunning act s = u → CentreGoesOn s (act s) →
      CentreGoesOn s u := fun is on => is ▸ whenRunning_centreGoesOn on
  cases c with
  | report => exact next_inj done ▸ serve_centreGoesOn (fun t b v => effectReport_centreGoesOn t v b) s
  | priorityCall => exact next_inj done ▸ serve_centreGoesOn (fun t b v => effectCall_centreGoesOn t v b) s
  | priorityCancel =>
    exact next_inj done ▸ serve_centreGoesOn (fun t b v => effectCancel_centreGoesOn t v b) s
  | readStatus => exact next_inj done ▸ serve_centreGoesOn (fun t b v => effectStatus_centreGoesOn t v b) s
  | readJunction | readBand | readPlanHead | readPlanGroup | readGeometryHead | readGeometryGroup
  | readSelection => exact next_inj done ▸ serve_centreGoesOn (effect := noEffect) (fun _ _ v => .refl v) s
  | writePlanHead | writePlanGroup | erasePlan =>
    exact next_inj done ▸ serve_centreGoesOn (fun _ _ v => retainPlan_centreGoesOn v _ _ _) s
  | checkPlan =>
    exact next_inj done ▸ serve_centreGoesOn (fun t p v => effectPlanCheck_centreGoesOn t v p) s
  | writeGeometryHead =>
    exact next_inj done ▸ serve_centreGoesOn (fun t h v => effectGeometryHeadWrite_centreGoesOn t v h) s
  | writeGeometryGroup =>
    exact next_inj done ▸ serve_centreGoesOn (effect := effectGeometryGroupWrite)
      (fun _ _ _ => .of_kept (by simp [effectGeometryGroupWrite, startRetention])) s
  | checkGeometry =>
    exact next_inj done ▸ serve_centreGoesOn (fun t b v => effectGeometryCheck_centreGoesOn t v b) s
  | writeSelection =>
    exact next_inj done ▸ serve_centreGoesOn (fun t b v => effectSelectionWrite_centreGoesOn t v b) s
  | pinPlan => exact next_inj done ▸ serve_centreGoesOn (fun t p v => effectPinPlan_centreGoesOn t v p) s
  | pinBias => exact next_inj done ▸ serve_centreGoesOn (fun t n v => effectPinBias_centreGoesOn t v n) s
  | releaseHold => exact next_inj done ▸ serve_centreGoesOn (fun _ p v => enterEntering_centreGoesOn p v) s
  | enterHold => exact next_inj done ▸ serve_centreGoesOn (fun _ _ v => holdEffects_centreGoesOn v) s
  | resetEngine => exact next_inj done ▸ serve_centreGoesOn (fun _ _ v => engineReset_centreGoesOn v) s
  | resetUnit => exact next_inj done ▸ serve_resetUnit_centreGoesOn s
  | unknownKind => exact next_inj done ▸ serveUnknown_centreGoesOn s
  | resetNAssert => exact next_inj done ▸ fun _ => assertReset_centreGoes s
  | hardwareReset pins =>
    exact next_inj done ▸ fun _ => startDecision_restart_centreGoes (s.setStraps pins)
  | resetUnitTakesEffect pins => exact event (next_inj done) (resetUnitNow_centreGoesOn s pins)
  | cycleBoundary => exact event (next_inj done) (cycleBoundary_centreGoesOn s)
  | localZero j =>
    obtain ⟨i, is⟩ := next_of_junction (act := localZero) done
    exact event is.symm (localZero_centreGoesOn s i)
  | windowClose j =>
    obtain ⟨i, is⟩ := next_of_junction (act := windowClose) done
    exact event is.symm (windowClose_centreGoesOn s i)
  | beatDue => exact event (next_inj done) (beatNow_centreGoesOn s)
  | evaluation => exact event (next_inj done) (selectorEvaluation_centreGoesOn s)
  | pinLapse => exact event (next_inj done) (pinLapse_centreGoesOn s)
  | periodEnd => exact event (next_inj done) (periodEnd_centreGoesOn s)
  | priorityExpiry j tag =>
    obtain ⟨i, is⟩ := next_of_junction (act := fun j => expireEntry j tag) done
    exact event is.symm (expireEntry_centreGoesOn s i tag)
  | retentionComplete => exact event (next_inj done) (completeRetention_centreGoesOn s)
  | computationComplete => exact event (next_inj done) (computationDone_centreGoesOn s)
  | decisecondTick => exact event (next_inj done) (tick_centreGoesOn s)
  | lineBusy => exact event (next_inj done) (lineBusy_centreGoesOn s)
  | lineFree chars => exact event (next_inj done) (lineFree_centreGoesOn s chars)
  | lineFault => exact event (next_inj done) (lineFault_centreGoesOn s)
  | frameComplete => exact event (next_inj done) (frameComplete_centreGoesOn s)
  | arbitrationLoss => exact event (next_inj done) (arbitrationLoss_centreGoesOn s)
  | lineFrameReceived chars => exact event (next_inj done) (lineReceive_centreGoesOn s chars)
  | lineFrameDiscarded f chars => exact event (next_inj done) (lineDiscard_centreGoesOn s f chars)
  | centreFrameReceived chars => exact event (next_inj done) (centreReceive_centreGoesOn s chars)
  | centreFrameDiscarded f chars => exact event (next_inj done) (centreDiscard_centreGoesOn s f chars)
  | centreFrameComplete => exact event (next_inj done) (centreComplete_centreGoesOn s)

/-- Settles O54: what follows each completed frame, then every command. -/
theorem centreTransmitterGoesOn : Obligations.CentreTransmitterGoesOn := by
  refine ⟨fun s sent running sends => ⟨fun noReset => ?_, fun x r rest waits notDone replies => ?_,
    fun x r chars waits reply noReply => ?_⟩, fun c s u done => exec_centreGoesOn done⟩
  · exact ⟨fun r rest => exec_centreFrameComplete_reply running sends (by simp [noReset]),
      fun n rest => exec_centreFrameComplete_notice running sends noReset,
      exec_centreFrameComplete_empty running sends noReset⟩
  · refine exec_centreFrameComplete_reply running sends (fun y same => ?_) replies
    obtain rfl := Option.some.inj (waits.symm.trans same)
    exact notDone
  · exact exec_centreFrameComplete_resetReply running (reply ▸ sends) waits noReply

end Sys2Proof.Machine
end

section
/-! RESET_UNIT: the request that stops the handler, and the restart behind its reply (R172). -/

namespace Sys2Proof.Machine

open Sys2Proof

section
variable {s : State} {t : Taken} {relatch : Bool}

theorem Admits.unitReset (h : Admits s t (.resetUnit relatch)) :
    Carries s t .resetUnit parseOption relatch :=
  h.carries rfl (fun _ => rfl) fun _ _ => Request.resetUnit.inj

/-- An accepted RESET_UNIT is recorded on the answered state, in every mode and retention state. -/
theorem exec_resetUnit (rest : AtRest s) (h : Admits s t (.resetUnit relatch)) :
    exec .resetUnit s = .next (effectResetUnit t relatch (answered s t .ok [])) := by
  rw [h.unitReset.accepted (answer := answerResetUnit) (effect := effectResetUnit) (result := [])
    rfl rfl rfl, settle_rest]
  simpa [effectResetUnit, AtRest] using rest

end

/-- While a RESET_UNIT waits the handler takes no frame. -/
theorem nextFrame_resetWaits {s : State} {x : PendingReset} (waits : s.handler.reset = some x) :
    nextFrame s = none := by
  simp [nextFrame, nextPort, waits]

/-- With no frame to take no request row changes anything. -/
theorem exec_commandOf_noFrame {s : State} (idle : nextFrame s = none) (k : Option RequestKind) :
    exec (commandOf k) s = .next s :=
  exec_otherKind fun t next => by simp [idle] at next

section
variable {s : State} {x : PendingReset}

/-- Once its reply has completed a waiting RESET_UNIT may take effect. -/
theorem resetMayTakeEffect_done (waits : s.handler.reset = some x) (done : x.replyDone = true) :
    resetMayTakeEffect s = some x := by
  simp [resetMayTakeEffect, waits, done]

/-- Before that it may not, while replies wait or the centre transmitter stands idle. -/
theorem resetMayTakeEffect_notDone (waits : s.handler.reset = some x) (notDone : x.replyDone = false)
    (ahead : s.centre.replies ≠ [] ∨ s.centre.sending = none) : resetMayTakeEffect s = none := by
  rcases ahead with queued | idle
  · simp [resetMayTakeEffect, waits, notDone, queued]
  · simp [resetMayTakeEffect, waits, notDone, idle]

/-- A RESET_UNIT that may take effect is a hardware reset, with option 0 on the straps latched before. -/
theorem resetUnitNow_restarts (pins : Straps) (may : resetMayTakeEffect s = some x) :
    resetUnitNow pins s = hardwareReset (if x.relatch then pins else s.straps) s := by
  cases option : x.relatch with
  | true => simp [resetUnitNow, may, option]
  | false =>
    have latched : s.setStraps s.straps = s := rfl
    simp [resetUnitNow, may, option, hardwareReset, latched]

end

/-- Settles O57: the reply with the reset recorded behind it, then the restart by whether it may take
effect. -/
theorem unitResetWaitsForItsReply : Obligations.UnitResetWaitsForItsReply := by
  refine ⟨fun s t relatch rest h => ?_, fun s x pins running waits => ⟨fun done => ?_,
    fun notDone ahead => ?_⟩⟩
  · obtain ⟨replied, -, line, centre, -⟩ := answered_replied s t .ok []
    have stopped : nextFrame (effectResetUnit t relatch (answered s t .ok [])) = none :=
      nextFrame_resetWaits rfl
    refine ⟨_, exec_resetUnit rest h, replied, line, centre, ?_, stopped, exec_commandOf_noFrame stopped⟩
    apply State.ext <;> simp [effectResetUnit]
  · refine ⟨_, rfl, congrArg Host.Outcome.next ?_⟩
    rw [whenRunning_running _ running, resetUnitNow_restarts pins (resetMayTakeEffect_done waits done)]
  · exact next_idle (by simp [resetUnitNow, resetMayTakeEffect_notDone waits notDone ahead])

end Sys2Proof.Machine
end
